-- ==== Sys2Proof/Word.lean ====
section
/-! DEFINITION. The word types of the SC24: what the manual sends as bytes, or counts modulo a power of two. -/
namespace Sys2Proof

/-- One byte of a frame. -/
abbrev Byte := BitVec 8

/-- A two-byte field of a frame: a width, a digest, a hold. -/
abbrev Half := BitVec 16

/-- A show time in grains, wrapping at 2^32 (00_scope.md, Time). -/
abbrev ShowTime := BitVec 32

/-- A statistics counter, 32-bit and wrapping (00_scope.md, Numbers and arithmetic). -/
abbrev Counter := BitVec 32

end Sys2Proof
end

