-- ==== Sys2Proof/Syntax.lean ====
section
/-! DEFINITION. The commands of the SC24: one constructor of Instr for each row of spec/opcode_table.json.
Frames carry the byte fields of R174's payload table, as sent; events name the channel they fall at. -/
namespace Sys2Proof

/-- The two Cue Link ports (00_scope.md, How the part is reached). -/
inductive Port where
  | upstream
  | downstream
deriving DecidableEq, Repr

/-- A command: a frame whose last byte has arrived, an event of a timer or of a clock, a change of an
input signal, or the beginning or end of a reset. Every command stands at the present instant. -/
inductive Instr where
  /-- MARK, R102. -/
  | mark (showTime : ShowTime) (hop : Byte) (pathDelay : BitVec 24) (quality : Byte)
  /-- PLAY, R17. -/
  | play (ensemble note force articulation : Byte) (target : ShowTime) (choke : Option Half)
  /-- MUTE, R34. -/
  | mute (ensemble selector action : Byte) (target : ShowTime)
  /-- SET MASTER_GAIN, R21. -/
  | setMasterGain (ensemble gain : Byte)
  /-- SET QUIET_CEILING, R22. -/
  | setQuietCeiling (ensemble : Byte) (ceiling : Half)
  /-- SET ROTOR_RATE, R92. -/
  | setRotorRate (ensemble : Byte) (rate : Half)
  /-- SET ROTOR_ALIGN, R96. -/
  | setRotorAlign (ensemble : Byte) (time : ShowTime)
  /-- FLUSH all, R49. -/
  | flushAll (ensemble : Byte)
  /-- FLUSH from time T, R49. -/
  | flushFromTime (ensemble : Byte) (time : ShowTime)
  /-- BANKSWAP, R9. -/
  | bankswap (position : Byte) (swapTime : ShowTime) (digest : Half)
  /-- LOAD_OPEN, R164. -/
  | loadOpen (position table : Byte) (start : Half)
  /-- LOAD_DATA, R165. -/
  | loadData (position sequence : Byte) (items : List Byte)
  /-- COMMIT, R153. -/
  | commit (position : Byte) (digest : Half)
  /-- ASK STATUS, R169. -/
  | askStatus (position : Byte)
  /-- ASK FAULTS, R169. -/
  | askFaults (position : Byte)
  /-- ASK COUNTERS, R169. -/
  | askCounters (position : Byte)
  /-- ASK STRIKER n, R82. -/
  | askStriker (position striker : Byte)
  /-- ASK DAMPERS, R91. -/
  | askDampers (position : Byte)
  /-- ASK ROTOR, R99. -/
  | askRotor (position : Byte)
  /-- ASK CLOCK, R110. -/
  | askClock (position : Byte)
  /-- ASK LINK, R118. -/
  | askLink (position : Byte)
  /-- ASK DIGESTS, R167. -/
  | askDigests (position : Byte)
  /-- ASK TABLE, R170. -/
  | askTable (position table bank : Byte) (start : Half) (count : Byte)
  /-- An ASK of unknown subject, R168. -/
  | askUnknownSubject (position subject : Byte)
  /-- CLEAR record, R141. -/
  | clearRecord (position kind subject : Byte)
  /-- CLEAR all faults, R141. -/
  | clearAllFaults (position : Byte)
  /-- CLEAR first-fault, R142. -/
  | clearFirstFault (position : Byte)
  /-- CLEAR statistics, R172. -/
  | clearStatistics (position : Byte)
  /-- HALT, R155. -/
  | halt (position : Byte)
  /-- RESUME, R156. -/
  | resume (position : Byte)
  /-- RESTART, R160. -/
  | restart (position : Byte)
  /-- A PROBE on the upstream port, R129. -/
  | probe (originator number : Byte) (hold : Half)
  /-- A bad frame on a port, R120. -/
  | badFrame (port : Port)
  /-- An upstream frame of unknown kind or of a return-lane kind, R122. -/
  | unknownKindFrame (kind : Byte) (payload : List Byte)
  /-- An upstream frame of a known forward-lane kind and a wrong length, R122. -/
  | malformedFrame (kind : Byte) (payload : List Byte)
  /-- A PROBE of correct length on the downstream port's return lane, R113. -/
  | returnedProbe (originator number : Byte) (hold : Half)
  /-- Any other good frame on the downstream port's return lane, R130. -/
  | relayFrame (kind : Byte) (payload : List Byte)
  /-- The downstream transmitter is at a frame boundary, R126. -/
  | downstreamFrameBoundary
  /-- The due probe is sent, R111. -/
  | probeSend
  /-- The 16 grains of the due probe have passed, R111. -/
  | probeWindowExpiry
  /-- The 256 grains of the outstanding probe have passed, R115. -/
  | probeTimeout
  /-- The upstream transmitter is at a frame boundary, R128. -/
  | upstreamFrameBoundary
  /-- A slew grain, R101. -/
  | slewGrain
  /-- The show clock reaches the head entry's action time, R43. -/
  | due
  /-- A drive end, R64. -/
  | driveEnd (striker : Fin 24)
  /-- A recovery end, R65. -/
  | recoveryEnd (striker : Fin 24)
  /-- A busy-until is reached, R63. -/
  | busyUntilLapse (striker : Fin 24)
  /-- A pulse on an impact sense input, R75. -/
  | impactPulse (striker : Fin 24)
  /-- The end of an impact window passes, R76. -/
  | impactWindowEnd (striker : Fin 24)
  /-- The cooling tick, R72. -/
  | coolingTick
  /-- A damper's travel end, R86. -/
  | travelEnd (damper : Fin 4)
  /-- A choke hold's expiry, R87. -/
  | chokeHoldExpiry (damper : Fin 4)
  /-- The ramp tick, R93. -/
  | rampTick
  /-- A rising edge of the step output, R94. -/
  | stepRisingEdge
  /-- A falling edge of the step output, R94. -/
  | stepFallingEdge
  /-- The show clock reaches the pending align, R96. -/
  | alignTakesEffect
  /-- A pulse on the index input, R95. -/
  | indexPulse
  /-- The show clock reaches the pending swap time, R10. -/
  | swapTimeReached
  /-- The mark supervision deadline, R106. -/
  | supervisionDeadline
  /-- The holdover limit, R107. -/
  | holdoverExpiry
  /-- The configuration timer's expiry, R154. -/
  | configTimeout
  /-- A driver fault input takes a level, R146. -/
  | driverFaultInputChange (group : Fin 3) (asserted : Bool)
  /-- A driver fault input has held its level for 5 grains, R146. -/
  | driverFaultFilterExpiry (group : Fin 3)
  /-- The supply level input takes a level, R147. -/
  | supplyLevelChange (level : Byte)
  /-- A candidate band has been indicated for the filter time, R148. -/
  | supplyFilterExpiry
  /-- A blink phase boundary of the lamp, R144. -/
  | lampBlinkPhase
  /-- The logic supply rises, R159. -/
  | powerOn
  /-- The reset line is asserted, R159. -/
  | resetLine
  /-- A reset ends, R159. -/
  | resetEnd
  /-- The reset line is released, R159. -/
  | resetLineRelease
deriving DecidableEq, Repr

end Sys2Proof
end

