-- ==== Sys2Proof/Decode.lean ====
section
/-! DEFINITION. The words of spec/opcode_table.json as commands. Its rows give no bits (log entry 29). -/
namespace Sys2Proof

/-- The command a table word spells: none, since no row of the table gives bits. -/
def decodeTableWord (_nbits _w : Nat) : Option Instr := none

end Sys2Proof
end

