-- ==== Sys2Proof/Config.lean ====
section
/-! DEFINITION. What is fixed in the part, and the free values: what the spec leaves open. -/
namespace Sys2Proof.Config

/-- Fine units in one grain (00_scope.md, Time: a fine unit is 1/16 grain). -/
def finePerGrain : Nat := 16

/-- The horizon, 2^22 grains: the furthest ahead of now an action may lie (00_scope.md). -/
def horizon : Nat := 4194304

/-- Places in the strike schedule (00_scope.md, General specification). -/
def scheduleCapacity : Nat := 256

/-- Places in the forward queue (R126). -/
def forwardCapacity : Nat := 4

/-- Places in the relay queue (R130). -/
def relayCapacity : Nat := 16

/-- Places in the answer queue (R131). -/
def answerCapacity : Nat := 8

/-- Records in the fault list (R137). -/
def faultCapacity : Nat := 8

/-- The largest path delay, in fine units (00_scope.md, Time). -/
def maxPathDelay : Nat := 16777215

/-- The cooling tick and the ramp tick: 1,024 grains, in fine units of local time (R72, R93). -/
def tickPeriod : Nat := 1024 * finePerGrain

/-- The configuration timer: 6,000,000 grains, in fine units of local time (R152). -/
def configTimer : Nat := 6000000 * finePerGrain

/-- The span in which a due probe may be sent: 16 grains, in fine units of local time (R111). -/
def probeWindow : Nat := 16 * finePerGrain

/-- An outstanding probe's time to return: 256 grains, in fine units of local time (R115). -/
def probeTimeout : Nat := 256 * finePerGrain

/-- The driver fault filter: 5 grains, in fine units of local time (R146). -/
def driverFilter : Nat := 5 * finePerGrain

/-- The end of a line reset or a RESTART: 10 grains of oscillator time, in fine units (R159). -/
def resetTail : Nat := 10 * finePerGrain

/-- How long the part takes to transmit a MARK frame, in fine units. R100 says that the part knows it
and R116 adds it to the path delay; the spec gives no line coding, so its value is free (log entry 6). -/
opaque markTransmitTime : Nat

/-- Which of several events that fall at one instant is taken first. The spec says that either may be
(R52, R73, R79, R90, R98, R109, R117, R132, R145, R158), so the choice is free (log entry 5). -/
opaque choice : Nat → Nat

/-- The bytes after the kind byte of an empty first-fault record, at a local time and by index: the
layout of 11 gives the kind byte 0xFF and states no other byte (log entry 30). -/
opaque emptyRecordByte : Nat → Nat → Byte

end Sys2Proof.Config
end

