-- ==== Sys2Proof/Machine/State.lean ====
section
/-! DEFINITION. The state of the SC24 as plain data, block by block, and the state right after reset.
A field's default value is its reset value (each block's chapter; log entries 3, 8 and 26). -/
namespace Sys2Proof.Machine

/-! ### Names of modes, states and reasons -/

/-- The operating modes (R151). -/
inductive Mode where
  | idle | config | run | safe | lockedOut
deriving DecidableEq, Repr

/-- The sync states of the show clock (06, SCU state). -/
inductive SyncState where
  | unlocked | acquiring | locked | holdover
deriving DecidableEq, Repr

/-- Trust in a path delay (06, SCU and PDU state). -/
inductive Quality where
  | none | coarse | fine
deriving DecidableEq, Repr

/-- The supply bands (R147). -/
inductive Band where
  | normal | low | cut
deriving DecidableEq, Repr

/-- The reset causes (R159). -/
inductive ResetCause where
  | power | line | link
deriving DecidableEq, Repr

/-- The two banks (R1). -/
inductive BankName where
  | a | b
deriving DecidableEq, Repr

/-- The states of a striker channel (R58). -/
inductive ChannelState where
  | disabled | idle | driving | recovering | held | suspended
deriving DecidableEq, Repr

/-- The states of a damper channel (R83). -/
inductive DamperState where
  | engaged | releasing | released | engaging
deriving DecidableEq, Repr

/-- The action of a damper entry (R34). -/
inductive DamperAction where
  | engage | release
deriving DecidableEq, Repr

/-- The reaction classes (R136). -/
inductive ReactionClass where
  | warn | hold | recover | halt
deriving DecidableEq, Repr

/-- The seven tables, ids 0 to 6 (01 and 10). -/
inductive TableId where
  | striker | damper | node | supervision | note | curve | articulation
deriving DecidableEq, Repr

/-- The sixteen fault kinds, in the order of the supervision table (R135). -/
inductive FaultKind where
  | noImpact | offTime | driverFault | supplyLow | supplyCut | clockWindow | clockLost | linkErrors
  | downstreamLost | chainTooLong | scheduleFull | returnOverflow | loadError | bankMismatch
  | commitMismatch | configTimeout
deriving DecidableEq, Repr

/-- A fault pair: a kind together with its subject (R58, R135). -/
inductive FaultPair where
  | noImpact (striker : Fin 24)
  | offTime (striker : Fin 24)
  | driverFault (group : Fin 3)
  | supplyLow
  | supplyCut
  | clockWindow
  | clockLost
  | linkErrors (port : Port)
  | downstreamLost
  | chainTooLong
  | scheduleFull
  | returnOverflow
  | loadError (table : TableId)
  | bankMismatch
  | commitMismatch
  | configTimeout
deriving DecidableEq, Repr

/-- The nine reasons for refusing a request (R36). -/
inductive RefuseReason where
  | notPlaying | noClock | unmapped | silent | outOfService | tooEarly | late | busy | full
deriving DecidableEq, Repr

/-- The six reasons for dropping a strike entry at its due (R44, R45). -/
inductive DropReason where
  | late | busy | outOfService | hot | noSupply | quieted
deriving DecidableEq, Repr

/-- What the status lamp shows (R144). -/
inductive Lamp where
  | off | slowBlink | fastBlink | steady
deriving DecidableEq, Repr

/-- Which return queue is served next (R128). -/
inductive Turn where
  | relay | answer
deriving DecidableEq, Repr

/-! ### Tables -/

/-- A striker record (R162). -/
structure StrikerRecord where
  enabled : Bool := false
  fHard : Nat := 0
  fSoft : Nat := 0
  wMin : Nat := 0
  wMax : Nat := 0
  recovery : Nat := 0
  hDerate : Nat := 0
  hCut : Nat := 0
  cooling : Nat := 0
  sense : Bool := false
  impactWindow : Nat := 0
  adapt : Bool := false
  trimSeed : Int := 0
deriving DecidableEq, Repr

/-- A damper record (R162). -/
structure DamperRecord where
  enabled : Bool := false
  releaseTravel : Nat := 0
  engageTravel : Nat := 0
  chokeHold : Nat := 0
deriving DecidableEq, Repr

/-- The node record (R163). -/
structure NodeRecord where
  ensemble : Byte := 0
  group1 : Option Byte := none
  group2 : Option Byte := none
  group3 : Option Byte := none
  compensation : Bool := true
  chainEnd : Bool := false
  notices : Bool := true
  rotorEnabled : Bool := false
  indexEnabled : Bool := false
  markPeriod : Nat := 1000
  holdoverLimit : Nat := 200000
  setupMargin : Nat := 20
  lateTolerance : Nat := 300
  lowThreshold : Nat := 160
  cutThreshold : Nat := 120
  hysteresis : Nat := 8
  filterTime : Nat := 10
  stepsPerRev : Nat := 200
  rampStep : Nat := 50
deriving DecidableEq, Repr

/-- A supervision item (R163). -/
structure SupervisionItem where
  reaction : ReactionClass := .warn
  notice : Bool := true
deriving DecidableEq, Repr

/-- A note entry (R2, R5). -/
structure NoteEntry where
  enabled : Bool := false
  primary : Fin 24 := 0
  alternate : Option (Fin 24) := none
  curve : Fin 8 := 0
  offset : Int := 0
  choke : Option (Fin 4) := none
deriving DecidableEq, Repr

/-- An articulation item (R7). -/
structure ArticulationItem where
  curve : Option (Fin 8) := none
  offset : Int := 0
deriving DecidableEq, Repr

/-- A vector given by its elements. -/
def tabulate {n : Nat} {α : Type} (f : Fin n → α) : Vector α n :=
  ⟨(List.ofFn f).toArray, by simp⟩

/-- One bank of banked tables, with the default content of R15. -/
structure Bank where
  notes : Vector NoteEntry 128 := Vector.replicate 128 {}
  curves : Vector Nat 512 := tabulate fun i => 16 * (i.val % 64)
  articulations : Vector ArticulationItem 3 := Vector.replicate 3 {}
deriving DecidableEq, Repr

/-- An OPEN load pointer (R164). -/
structure LoadPointer where
  table : TableId
  next : Nat
  sequence : Byte
deriving DecidableEq, Repr

/-- The default supervision table: the default classes of R135, notices enabled (R163). -/
def defaultSupervision : Vector SupervisionItem 16 :=
  (Vector.replicate 16 ({} : SupervisionItem)).set 2 { reaction := .recover }

/-- The Table Store (01, 10). -/
structure Tbs where
  strikers : Vector StrikerRecord 24 := Vector.replicate 24 {}
  dampers : Vector DamperRecord 4 := Vector.replicate 4 {}
  node : NodeRecord := {}
  supervision : Vector SupervisionItem 16 := defaultSupervision
  bankA : Bank := {}
  bankB : Bank := {}
  playBank : BankName := .a
  pendingSwap : Option ShowTime := none
  swapCancellations : Counter := 0
  pointer : Option LoadPointer := none
  loadDiscards : Counter := 0
deriving DecidableEq, Repr

/-! ### Frames and the link -/

/-- A good frame: its kind byte and payload. Its length byte and CRC follow from these (R120, R174). -/
structure Frame where
  kind : Byte
  payload : List Byte
deriving DecidableEq, Repr

/-- A MARK copy waiting for the downstream transmitter: what R116 needs to write it. -/
structure WaitingMark where
  showTime : ShowTime
  hop : Byte
  pathDelay : Nat
  quality : Quality
  /-- Local time of its receipt reference instant. -/
  receivedAt : Nat
  /-- Whether a probe fell due with this MARK (R111). -/
  opensProbe : Bool
deriving DecidableEq, Repr

/-- A copy in the forward queue; `restart` says that the node itself restarts when the copy is gone (R125). -/
inductive ForwardItem where
  | mark (m : WaitingMark)
  | copy (frame : Frame) (restart : Bool)
deriving DecidableEq, Repr

/-- What follows the end of a downstream transmission: the window of a due probe (R111), the hand-over
of a RESTART (R125), or the send instant of a probe (R111). -/
inductive SendingJob where
  | mark (opensProbe : Bool)
  | copy (restart : Bool)
  | probe
deriving DecidableEq, Repr

/-- A frame on the downstream transmitter. -/
structure Sending where
  frame : Frame
  job : SendingJob
deriving DecidableEq, Repr

/-- The PROBE in the returned-probe slot, with its receipt reference instant (R129). -/
structure HeldProbe where
  originator : Byte
  number : Byte
  receivedAt : Nat
deriving DecidableEq, Repr

/-- The ten link frame counters (R133). -/
structure LinkCounters where
  upGood : Counter := 0
  upBad : Counter := 0
  downGood : Counter := 0
  downBad : Counter := 0
  unknownKind : Counter := 0
  malformed : Counter := 0
  forwardDiscards : Counter := 0
  relayDiscards : Counter := 0
  noticeDiscards : Counter := 0
  unansweredAsks : Counter := 0
deriving DecidableEq, Repr

/-- The Link Interface Unit (07). -/
structure Liu where
  position : Byte := 255
  forward : List ForwardItem := []
  relay : List Frame := []
  answer : List Frame := []
  slot : Option HeldProbe := none
  turn : Turn := .relay
  leakUp : Nat := 0
  leakDown : Nat := 0
  errorsUp : Bool := false
  errorsDown : Bool := false
  chainTooLong : Bool := false
  counters : LinkCounters := {}
  /-- The frame on the downstream transmitter; none is idle fill. -/
  sendingDown : Option Sending := none
  /-- The frame on the upstream transmitter; none is idle fill. -/
  sendingUp : Option Frame := none
deriving DecidableEq, Repr

/-! ### Clock and path delay -/

/-- The Show Clock Unit (06). Local times are in fine units. -/
structure Scu where
  now : ShowTime := 0
  sync : SyncState := .unlocked
  confidence : Nat := 0
  slew : Int := 0
  slewCount : Nat := 0
  lastMark : Option Nat := none
  holdoverStart : Option Nat := none
  lastPathDelay : Nat := 0
  qualityIn : Quality := .none
deriving DecidableEq, Repr

/-- An outstanding probe; its send instant is none until its last byte has left (R111, log entry 16). -/
structure OutstandingProbe where
  number : Byte
  sentAt : Option Nat
deriving DecidableEq, Repr

/-- A probe that has fallen due: it waits for its MARK's transmission, or until its window ends (R111). -/
inductive ProbeDue where
  | none
  | afterMark
  | window (expires : Nat)
deriving DecidableEq, Repr

/-- The Path Delay Unit (06). -/
structure Pdu where
  average : Nat := 0
  samples : Nat := 0
  quality : Quality := .none
  missing : Nat := 0
  outstanding : Option OutstandingProbe := none
  nextProbe : Byte := 0
  markCount : Nat := 0
  probeDue : ProbeDue := .none
  downstreamLost : Bool := false
deriving DecidableEq, Repr

/-! ### Acceptance and schedule -/

/-- The nine refusal counters (R36). -/
structure RefusalCounters where
  notPlaying : Counter := 0
  noClock : Counter := 0
  unmapped : Counter := 0
  silent : Counter := 0
  outOfService : Counter := 0
  tooEarly : Counter := 0
  late : Counter := 0
  busy : Counter := 0
  full : Counter := 0
deriving DecidableEq, Repr

/-- The lead-margin statistics (R32). -/
structure LeadMargins where
  minimum : Option Int := none
  maximum : Option Int := none
  last : Option Int := none
deriving DecidableEq, Repr

/-- The Acceptance Unit (02). -/
structure Acu where
  gain : Byte := 255
  ceiling : Nat := 2047
  refusals : RefusalCounters := {}
  margins : LeadMargins := {}
deriving DecidableEq, Repr

/-- What a schedule entry does at its due (R38). -/
inductive Work where
  | strike (striker : Fin 24) (width : Nat) (expected : ShowTime)
  | damper (damper : Fin 4) (action : DamperAction) (choke : Bool)
deriving DecidableEq, Repr

/-- A schedule entry (R38). -/
structure Entry where
  action : ShowTime
  target : ShowTime
  work : Work
deriving DecidableEq, Repr

/-- The six dropped-at-due counters (R45). -/
structure DropCounters where
  late : Counter := 0
  busy : Counter := 0
  outOfService : Counter := 0
  hot : Counter := 0
  noSupply : Counter := 0
  quieted : Counter := 0
deriving DecidableEq, Repr

/-- The Strike Schedule (03). -/
structure Sch where
  entries : List Entry := []
  accepted : Counter := 0
  started : Counter := 0
  dropped : DropCounters := {}
  flushed : Counter := 0
  damperAccepted : Counter := 0
  damperPerformed : Counter := 0
  damperRedundant : Counter := 0
  damperDropped : Counter := 0
  damperFlushed : Counter := 0
deriving DecidableEq, Repr

/-! ### Channels -/

/-- A running drive: its start and width (R62). Its end is the start plus the width; a clock step
moves the start with it, so that the time remaining is kept (R66, log entry 21). -/
structure Drive where
  start : ShowTime
  width : Nat
deriving DecidableEq, Repr

/-- The hold marks: which of the three fault pairs hold the striker (R58). -/
structure HoldMarks where
  noImpact : Bool := false
  offTime : Bool := false
  driverFault : Bool := false
deriving DecidableEq, Repr

/-- One striker channel (04). -/
structure Channel where
  output : Bool := false
  drive : Option Drive := none
  recoveryEnd : Option ShowTime := none
  /-- None when lapsed (R63). -/
  busyUntil : Option ShowTime := none
  heat : Nat := 0
  trim : Int := 0
  missRun : Nat := 0
  outlierRun : Nat := 0
  /-- The expected impact of the open window (R74). -/
  window : Option ShowTime := none
  marks : HoldMarks := {}
  suspended : Bool := false
deriving DecidableEq, Repr

/-- The Striker Channels (04). -/
structure Stc where
  channels : Vector Channel 24 := Vector.replicate 24 {}
  stray : Counter := 0
  coolingNext : Nat := Config.tickPeriod
deriving DecidableEq, Repr

/-- One damper channel (05). -/
structure Damper where
  state : DamperState := .engaged
  coil : Bool := false
  travelEnd : Option ShowTime := none
  choke : Bool := false
  hold : Option ShowTime := none
  /-- Whether the running travel was started by a hand-over, and so counts as performed (R86). -/
  handedOver : Bool := false
deriving DecidableEq, Repr

/-- The Damper Channels (05). -/
structure Dmc where
  dampers : Vector Damper 4 := Vector.replicate 4 {}
deriving DecidableEq, Repr

/-- A running step cycle (R94). -/
structure StepCycle where
  nextChange : ShowTime
  period : Nat
deriving DecidableEq, Repr

/-- The Rotor Generator (05). -/
structure Rot where
  target : Nat := 0
  current : Nat := 0
  output : Bool := false
  cycle : Option StepCycle := none
  position : Nat := 0
  lastIndexError : Nat := 0
  indexErrors : Nat := 0
  align : Option ShowTime := none
  rampNext : Nat := Config.tickPeriod
deriving DecidableEq, Repr

/-! ### Supervision, supply and mode -/

/-- A candidate band and the local time it became the candidate (R147). -/
structure Candidate where
  band : Band
  start : Nat
deriving DecidableEq, Repr

/-- The Supply Monitor (08). -/
structure Sup where
  band : Band := .normal
  candidate : Option Candidate := none
  dips : Nat := 0
  /-- The supply level input SLEVEL. -/
  level : Byte := 255
deriving DecidableEq, Repr

/-- A fault record (08, Fault records and the list). `active` stays false for an event. -/
structure FaultRecord where
  pair : FaultPair
  firstSeen : ShowTime
  clockNotLocked : Bool
  lastSeen : ShowTime
  occurrences : Nat
  active : Bool
deriving DecidableEq, Repr

/-- The Supervision Unit (08). -/
structure Svu where
  faults : List FaultRecord := []
  first : Option FaultRecord := none
  overflow : Nat := 0
  lamp : Lamp := .off
  /-- The level of the LAMP output. -/
  lampOn : Bool := false
  driverFault : Vector Bool 3 := Vector.replicate 3 false
  /-- The levels of the inputs DFLT0 to DFLT2. -/
  driverInput : Vector Bool 3 := Vector.replicate 3 false
  driverChanged : Vector Nat 3 := Vector.replicate 3 0
deriving DecidableEq, Repr

/-- The Mode Controller (09). -/
structure Mdc where
  mode : Mode := .idle
  /-- The configuration timer's expiry in local time; none when stopped. -/
  timer : Option Nat := none
  resetCause : ResetCause := .power
  resumeRefused : Counter := 0
deriving DecidableEq, Repr

/-- A reset in progress: its cause, and the instant of oscillator time at which it ends, if that is
fixed already (R159). -/
structure ResetRun where
  cause : ResetCause
  endsAt : Option Nat
deriving DecidableEq, Repr

/-! ### The machine -/

/-- The whole SC24 and its queue of waiting commands. -/
structure State where
  scu : Scu := {}
  pdu : Pdu := {}
  liu : Liu := {}
  tbs : Tbs := {}
  acu : Acu := {}
  sch : Sch := {}
  stc : Stc := {}
  dmc : Dmc := {}
  rot : Rot := {}
  sup : Sup := {}
  svu : Svu := {}
  mdc : Mdc := {}
  /-- Local time in fine units since the end of the last reset (log entry 3). -/
  localTime : Nat := 0
  resetting : Option ResetRun := none
  /-- The reset line RESETN is asserted. -/
  lineAsserted : Bool := false
  /-- The commands waiting, first in first out. -/
  pending : List Instr := []
  /-- The model's own: how many free choices have been taken (log entry 5). -/
  choices : Nat := 0
deriving DecidableEq, Repr

/-- Why the machine stops with a fault: never. The spec names no event at which the part stops, so this
type has no constructor and no command faults (safe: nothing is cut off). -/
inductive Fault where
deriving DecidableEq, Repr

/-- Why a command is refused. -/
inductive Refusal where
  /-- Raised by an arm of exec for a command that has no meaning yet; safe, since the machine stops. -/
  | notModelled (mnemonic : String)
deriving DecidableEq, Repr

/-- The machine right after a power-on reset: every block at its reset values (R159). -/
def State.reset : State := {}

/-- The outcome of a command. -/
abbrev Result := Host.Outcome State Fault Refusal

end Sys2Proof.Machine
end

