-- ==== Sys2Proof/Machine/Ops.lean ====
section
/-! DEFINITION. Show-time arithmetic, bytes and the CRC, and the named reads and updates of the state.
The SC24 takes no processor exception: the counterpart is a fault report, `Supervision.lean`. -/
namespace Sys2Proof.Machine

/-! ### Show time (00_scope.md, Time) -/

/-- The signed 32-bit difference A - B. -/
def signedDiff (a b : ShowTime) : Int := (a - b).toInt

/-- "A is before B". -/
def before (a b : ShowTime) : Bool := decide (signedDiff a b < 0)

/-- "A is not after B": as `reached t now`, the show clock has reached t. -/
def reached (t now : ShowTime) : Bool := decide (signedDiff t now ≤ 0)

/-- A show time n grains after t. -/
def plusGrains (t : ShowTime) (n : Nat) : ShowTime := t + BitVec.ofNat 32 n

/-- A show time k grains after t, k signed. -/
def shiftBy (k : Int) (t : ShowTime) : ShowTime := t + BitVec.ofInt 32 k

/-! ### Numbers (00_scope.md, Numbers and arithmetic) -/

/-- "Clamped to [lo, hi]". -/
def clampNat (lo hi n : Nat) : Nat := if n < lo then lo else if hi < n then hi else n

/-- "Clamped to [lo, hi]", signed. -/
def clampInt (lo hi n : Int) : Int := if n < lo then lo else if hi < n then hi else n

/-- A saturating increase. -/
def satAdd (top n k : Nat) : Nat := min top (n + k)

/-- Grains as fine units of local time. -/
def fine (grains : Nat) : Nat := Config.finePerGrain * grains

/-! ### Bytes, most significant first (11) -/

/-- Two bytes of a word. -/
def bytes2 (w : Half) : List Byte := [w.extractLsb' 8 8, w.extractLsb' 0 8]

/-- Three bytes of a word. -/
def bytes3 (w : BitVec 24) : List Byte := [w.extractLsb' 16 8, w.extractLsb' 8 8, w.extractLsb' 0 8]

/-- Four bytes of a word. -/
def bytes4 (w : BitVec 32) : List Byte :=
  [w.extractLsb' 24 8, w.extractLsb' 16 8, w.extractLsb' 8 8, w.extractLsb' 0 8]

/-- One byte of a number. -/
def byteOf (n : Nat) : Byte := BitVec.ofNat 8 n

/-- Two bytes of a number. -/
def nat2 (n : Nat) : List Byte := bytes2 (BitVec.ofNat 16 n)

/-- Three bytes of a number. -/
def nat3 (n : Nat) : List Byte := bytes3 (BitVec.ofNat 24 n)

/-- Two bytes of a signed number, two's complement. -/
def int2 (n : Int) : List Byte := bytes2 (BitVec.ofInt 16 n)

/-- A yes/no byte. -/
def flag (b : Bool) : Byte := if b then 1 else 0

/-- One bit of a flags byte. -/
def flagBit (i : Nat) (b : Bool) : Byte := if b then (1 : Byte) <<< i else 0

/-- The CRC-16 register after `n` more shifts, polynomial x^16+x^12+x^5+1 (11, Envelope). -/
def crcShift : Nat → Half → Half
  | 0, c => c
  | n + 1, c => crcShift n (if c.msb then (c <<< (1 : Nat)) ^^^ 0x1021#16 else c <<< (1 : Nat))

/-- The CRC-16 register after one more byte, most significant bit first. -/
def crcByte (c : Half) (b : Byte) : Half := crcShift 8 (c ^^^ ((b.setWidth 16 : Half) <<< (8 : Nat)))

/-- The CRC-16 of a run of bytes, started at 0xFFFF (11, Envelope; R167). -/
def crc16 (bs : List Byte) : Half := bs.foldl crcByte 0xFFFF#16

/-- A frame between its delimiters: kind, length, payload, CRC high byte first (R174). -/
def Frame.wire (f : Frame) : List Byte :=
  let body := f.kind :: byteOf f.payload.length :: f.payload
  body ++ bytes2 (crc16 body)

/-! ### Named updates of the blocks -/

def State.onScu (f : Scu → Scu) (s : State) : State := { s with scu := f s.scu }
def State.onPdu (f : Pdu → Pdu) (s : State) : State := { s with pdu := f s.pdu }
def State.onLiu (f : Liu → Liu) (s : State) : State := { s with liu := f s.liu }
def State.onTbs (f : Tbs → Tbs) (s : State) : State := { s with tbs := f s.tbs }
def State.onAcu (f : Acu → Acu) (s : State) : State := { s with acu := f s.acu }
def State.onSch (f : Sch → Sch) (s : State) : State := { s with sch := f s.sch }
def State.onStc (f : Stc → Stc) (s : State) : State := { s with stc := f s.stc }
def State.onDmc (f : Dmc → Dmc) (s : State) : State := { s with dmc := f s.dmc }
def State.onRot (f : Rot → Rot) (s : State) : State := { s with rot := f s.rot }
def State.onSup (f : Sup → Sup) (s : State) : State := { s with sup := f s.sup }
def State.onSvu (f : Svu → Svu) (s : State) : State := { s with svu := f s.svu }
def State.onMdc (f : Mdc → Mdc) (s : State) : State := { s with mdc := f s.mdc }

/-- The link frame counters changed. -/
def State.onCounters (f : LinkCounters → LinkCounters) (s : State) : State :=
  s.onLiu fun l => { l with counters := f l.counters }

/-! ### Named reads -/

/-- Now: the present show time (00_scope.md, Time). -/
abbrev State.now (s : State) : ShowTime := s.scu.now

/-- The node record. -/
abbrev State.node (s : State) : NodeRecord := s.tbs.node

/-- Channel n. -/
def State.channel (s : State) (n : Fin 24) : Channel := s.stc.channels[n]

/-- The striker record of striker n. -/
def State.strikerRecord (s : State) (n : Fin 24) : StrikerRecord := s.tbs.strikers[n]

/-- Damper d. -/
def State.damper (s : State) (d : Fin 4) : Damper := s.dmc.dampers[d]

/-- The damper record of damper d. -/
def State.damperRecord (s : State) (d : Fin 4) : DamperRecord := s.tbs.dampers[d]

/-- Channel n replaced. -/
def State.setChannel (n : Fin 24) (c : Channel) (s : State) : State :=
  s.onStc fun t => { t with channels := t.channels.set n c }

/-- Every channel replaced by a function of its number and its old value. -/
def State.mapChannels (f : Fin 24 → Channel → Channel) (s : State) : State :=
  s.onStc fun t => { t with channels := tabulate fun i => f i t.channels[i] }

/-- Damper d replaced. -/
def State.setDamper (d : Fin 4) (v : Damper) (s : State) : State :=
  s.onDmc fun t => { t with dampers := t.dampers.set d v }

/-- Every damper replaced by a function of its old value. -/
def State.mapDampers (f : Damper → Damper) (s : State) : State :=
  s.onDmc fun t => { t with dampers := tabulate fun i => f t.dampers[i] }

/-- The strikers in order. -/
def allStrikers : List (Fin 24) := List.finRange 24

/-- The dampers in order. -/
def allDampers : List (Fin 4) := List.finRange 4

/-- The driver groups in order. -/
def allGroups : List (Fin 3) := List.finRange 3

/-- The driver group of a striker: 0-7, 8-15, 16-23 (04). -/
def groupOf (n : Fin 24) : Fin 3 := ⟨n.val / 8, by omega⟩

/-- "A is not locked": the sync state is UNLOCKED or ACQUIRING (R9, R18, R137). -/
def SyncState.notLocked : SyncState → Bool
  | .unlocked | .acquiring => true
  | .locked | .holdover => false

/-- The play bank (R1). -/
def Tbs.playTables (t : Tbs) : Bank :=
  match t.playBank with
  | .a => t.bankA
  | .b => t.bankB

/-- The load bank (R1). -/
def Tbs.loadTables (t : Tbs) : Bank :=
  match t.playBank with
  | .a => t.bankB
  | .b => t.bankA

/-- The load bank replaced. -/
def Tbs.setLoadTables (b : Bank) (t : Tbs) : Tbs :=
  match t.playBank with
  | .a => { t with bankB := b }
  | .b => { t with bankA := b }

/-- Banked tables are tables 4, 5 and 6 (01). -/
def TableId.banked : TableId → Bool
  | .striker | .damper | .node | .supervision => false
  | .note | .curve | .articulation => true

/-- A command's effect, taken unless a reset is in progress: while a reset lasts the node takes no
input and nothing runs (R159). -/
def running (f : State → State) (s : State) : Result :=
  .next (if s.resetting.isSome then s else f s)

end Sys2Proof.Machine
end

