-- ==== Sys2Proof/Machine/Channels.lean ====
section
/-! DEFINITION. Striker channels as such: state, effective values, truncation, marks (04, R58 to R73). -/
namespace Sys2Proof.Machine

/-- Some hold mark is held. -/
def HoldMarks.any (m : HoldMarks) : Bool := m.noImpact || m.offTime || m.driverFault

/-- The service marks keep the channel from recovering: a hold mark or the suspend mark (R58). -/
def Channel.marked (c : Channel) : Bool := c.marks.any || c.suspended

/-- The name of a channel's state: the first line that applies (R58). -/
def channelState (r : StrikerRecord) (c : Channel) : ChannelState :=
  if !r.enabled then .disabled
  else if c.drive.isSome then .driving
  else if c.marks.any then .held
  else if c.suspended then .suspended
  else if c.recoveryEnd.isSome then .recovering
  else .idle

/-- The state of channel n. -/
def State.channelState (s : State) (n : Fin 24) : ChannelState :=
  Machine.channelState (s.strikerRecord n) (s.channel n)

/-- DISABLED, HELD and SUSPENDED are the out-of-service states (R58). -/
def ChannelState.outOfService : ChannelState → Bool
  | .disabled | .held | .suspended => true
  | .idle | .driving | .recovering => false

/-- The effective soft flight (R59). -/
def StrikerRecord.fSoftEff (r : StrikerRecord) : Nat := max r.fSoft r.fHard

/-- The effective minimum width (R59). -/
def StrikerRecord.wMinEff (r : StrikerRecord) : Nat := min r.wMin r.wMax

/-- The effective cut threshold (R59). -/
def StrikerRecord.hCutEff (r : StrikerRecord) : Nat :=
  if r.hDerate < r.hCut then r.hCut else min 65535 (r.hDerate + 1)

/-- The end of a running drive (R64). -/
def Drive.endTime (d : Drive) : ShowTime := plusGrains d.start d.width

/-- Heat after d more grains of drive (R71). -/
def heatAfter (heat d : Nat) : Nat := satAdd 65535 heat d

/-- The time driven so far: the width less the time that remains to the drive end (R67). -/
def Drive.driven (d : Drive) (now : ShowTime) : Nat := d.width - (signedDiff d.endTime now).toNat

/-- The channel once its output is off: a recovery begins at `from_` unless a mark keeps it from it (R64, R67). -/
def Channel.rest (from_ : ShowTime) (r : StrikerRecord) (c : Channel) : Channel :=
  { c with
    output := false
    drive := none
    recoveryEnd := if c.marked then none else some (plusGrains from_ r.recovery) }

/-- Truncation of a running drive; a channel that drives nothing is not changed (R67). -/
def Channel.truncate (now : ShowTime) (r : StrikerRecord) (c : Channel) : Channel :=
  match c.drive with
  | none => c
  | some d => ({ c with heat := heatAfter c.heat (d.driven now), window := none }).rest now r

/-- A NO_IMPACT or OFF_TIME hold mark is added: a drive runs on, a recovery ends (R69). -/
def Channel.holdTiming (offTime : Bool) (c : Channel) : Channel :=
  { c with
    marks :=
      if offTime then { c.marks with offTime := true } else { c.marks with noImpact := true }
    recoveryEnd := none }

/-- A DRIVER_FAULT hold mark is added: a drive is truncated, a recovery ends; a mark already held is not
added again (R68). -/
def Channel.holdDriver (now : ShowTime) (r : StrikerRecord) (c : Channel) : Channel :=
  if c.marks.driverFault then c
  else ({ c with marks := { c.marks with driverFault := true }, recoveryEnd := none }).truncate now r

/-- The suspend mark is set: a drive is truncated, a recovery ends; a set mark is not set again (R68). -/
def Channel.suspend (now : ShowTime) (r : StrikerRecord) (c : Channel) : Channel :=
  if c.suspended then c else ({ c with suspended := true, recoveryEnd := none }).truncate now r

/-- Every running drive is truncated: entry into SAFE or CUT (R67). -/
def State.truncateAll (s : State) : State :=
  s.mapChannels fun n c => c.truncate s.now (s.strikerRecord n)

/-- The channel after a write of its record: reset values, the trim from the seed; the marks are kept (R81). -/
def Channel.rewritten (r : StrikerRecord) (c : Channel) : Channel :=
  { trim := r.trimSeed, marks := c.marks, suspended := c.suspended }

/-- The drive end: output off, heat raised by the width, a recovery from the drive end (R64). -/
def Channel.endDrive (r : StrikerRecord) (c : Channel) : Channel :=
  match c.drive with
  | none => c
  | some d => ({ c with heat := heatAfter c.heat d.width }).rest d.endTime r

/-- The show clock has reached the channel's drive end. -/
def State.driveEndReached (s : State) (n : Fin 24) : Bool :=
  match (s.channel n).drive with
  | none => false
  | some d => reached d.endTime s.now

/-- The show clock has reached the channel's recovery end. -/
def State.recoveryEndReached (s : State) (n : Fin 24) : Bool :=
  match (s.channel n).recoveryEnd with
  | none => false
  | some t => reached t s.now

/-- The show clock has reached the channel's busy-until. -/
def State.busyReached (s : State) (n : Fin 24) : Bool :=
  match (s.channel n).busyUntil with
  | none => false
  | some t => reached t s.now

/-- The end of the channel's window, E + E_w, is before now (R76). -/
def State.windowPassed (s : State) (n : Fin 24) : Bool :=
  match (s.channel n).window with
  | none => false
  | some e => before (plusGrains e (s.strikerRecord n).impactWindow) s.now

/-- DRIVE_END, if it has fallen (R64). -/
def State.takeDriveEnd (n : Fin 24) (s : State) : State :=
  if s.driveEndReached n then s.setChannel n ((s.channel n).endDrive (s.strikerRecord n)) else s

/-- RECOVERY_END, if it has fallen (R65). -/
def State.takeRecoveryEnd (n : Fin 24) (s : State) : State :=
  if s.recoveryEndReached n then s.setChannel n { s.channel n with recoveryEnd := none } else s

/-- BUSY_UNTIL_LAPSE, if it has fallen (R63). -/
def State.takeBusyLapse (n : Fin 24) (s : State) : State :=
  if s.busyReached n then s.setChannel n { s.channel n with busyUntil := none } else s

/-- A busy-until, lapsed if the show clock has reached it (R63). -/
def lapsing (now : ShowTime) (busyUntil : Option ShowTime) : Option ShowTime :=
  busyUntil.filter fun t => !reached t now

/-- A clock step of k from now: drive ends and recovery ends move, the time remaining is kept (R66). A
busy-until stays where it is; one that the clock had reached before the step has lapsed and is not revived
by it, and one that the step carries now to or past lapses (R63). -/
def Channel.moveBy (k : Int) (now : ShowTime) (c : Channel) : Channel :=
  { c with
    drive := c.drive.map fun d => { d with start := shiftBy k d.start }
    recoveryEnd := c.recoveryEnd.map (shiftBy k)
    busyUntil := lapsing (shiftBy k now) (lapsing now c.busyUntil) }

/-- The cooling tick has come (R72). -/
def State.coolingReached (s : State) : Bool := decide (s.stc.coolingNext ≤ s.localTime)

/-- COOLING_TICK, if it has fallen: each heat falls by its own K_c, to no less than 0 (R72). -/
def State.takeCoolingTick (s : State) : State :=
  if s.coolingReached then
    (s.mapChannels fun n c => { c with heat := c.heat - (s.strikerRecord n).cooling }).onStc
      fun t => { t with coolingNext := t.coolingNext + Config.tickPeriod }
  else s

end Sys2Proof.Machine
end

