-- ==== Sys2Proof/Machine/Operands.lean ====
section
/-! DEFINITION. Operands: how the fields of frames are read, and the byte layouts of frames and items (11). -/
namespace Sys2Proof.Machine

/-! ### Kind codes (11, Envelope and kind codes) -/

def Kind.mark : Byte := 0x01
def Kind.play : Byte := 0x10
def Kind.mute : Byte := 0x11
def Kind.set : Byte := 0x12
def Kind.flush : Byte := 0x13
def Kind.bankswap : Byte := 0x20
def Kind.loadOpen : Byte := 0x21
def Kind.loadData : Byte := 0x22
def Kind.commit : Byte := 0x23
def Kind.ask : Byte := 0x24
def Kind.clear : Byte := 0x25
def Kind.halt : Byte := 0x26
def Kind.resume : Byte := 0x27
def Kind.restart : Byte := 0x28
def Kind.probe : Byte := 0x30
def Kind.answer : Byte := 0x40
def Kind.notice : Byte := 0x41

/-- The forward-lane kinds: every kind of the code table but ANSWER and NOTICE (R122). -/
def forwardKinds : List Byte :=
  [Kind.mark, Kind.play, Kind.mute, Kind.set, Kind.flush, Kind.bankswap, Kind.loadOpen, Kind.loadData,
   Kind.commit, Kind.ask, Kind.clear, Kind.halt, Kind.resume, Kind.restart, Kind.probe]

/-! ### Readings of frame fields (R19, R176) -/

/-- PLAY force: 0 as 1, 64-255 as 63. -/
def readForce (b : Byte) : Nat := clampNat 1 63 b.toNat

/-- PLAY articulation: 4-255 as 0, plain; otherwise the item's index, articulation - 1. -/
def readArticulation (b : Byte) : Option (Fin 3) :=
  if b = 1 then some 0 else if b = 2 then some 1 else if b = 3 then some 2 else none

/-- MARK quality: 3-255 as NONE. -/
def readQuality (b : Byte) : Quality :=
  if b = 1 then .coarse else if b = 2 then .fine else .none

/-- MUTE damper selector: 4-255 is all (none). -/
def readSelector (b : Byte) : Option (Fin 4) :=
  if h : b.toNat < 4 then some ⟨b.toNat, h⟩ else none

/-- MUTE action: 0x01 RELEASE, any other ENGAGE. -/
def readAction (b : Byte) : DamperAction := if b = 1 then .release else .engage

/-- The table a table id names, if any. -/
def readTable (b : Byte) : Option TableId :=
  match b.toNat with
  | 0 => some .striker
  | 1 => some .damper
  | 2 => some .node
  | 3 => some .supervision
  | 4 => some .note
  | 5 => some .curve
  | 6 => some .articulation
  | _ => none

/-- The striker a byte names, if any. -/
def readStriker (b : Byte) : Option (Fin 24) :=
  if h : b.toNat < 24 then some ⟨b.toNat, h⟩ else none

/-- The driver group a byte names, if any. -/
def readGroup (b : Byte) : Option (Fin 3) :=
  if h : b.toNat < 3 then some ⟨b.toNat, h⟩ else none

/-- The port a byte names, if any. -/
def readPort (b : Byte) : Option Port :=
  if b = 0 then some .upstream else if b = 1 then some .downstream else none

/-- The fault pair that CLEAR record names: the kind by item number, the subject as in fault records;
the subject of a kind without one is not read (R171, R176). -/
def readPair (kind subject : Byte) : Option FaultPair :=
  match kind.toNat with
  | 0 => (readStriker subject).map .noImpact
  | 1 => (readStriker subject).map .offTime
  | 2 => (readGroup subject).map .driverFault
  | 3 => some .supplyLow
  | 4 => some .supplyCut
  | 5 => some .clockWindow
  | 6 => some .clockLost
  | 7 => (readPort subject).map .linkErrors
  | 8 => some .downstreamLost
  | 9 => some .chainTooLong
  | 10 => some .scheduleFull
  | 11 => some .returnOverflow
  | 12 => (readTable subject).map .loadError
  | 13 => some .bankMismatch
  | 14 => some .commitMismatch
  | 15 => some .configTimeout
  | _ => none

/-! ### Codes (11, Answers and notices) -/

def Mode.code : Mode → Byte
  | .idle => 0 | .config => 1 | .run => 2 | .safe => 3 | .lockedOut => 4

def SyncState.code : SyncState → Byte
  | .unlocked => 0 | .acquiring => 1 | .locked => 2 | .holdover => 3

def Quality.rank : Quality → Nat
  | .none => 0 | .coarse => 1 | .fine => 2

def Quality.code (q : Quality) : Byte := byteOf q.rank

/-- The lower of two qualities, NONE below COARSE below FINE (R116). -/
def Quality.lower (p q : Quality) : Quality := if p.rank ≤ q.rank then p else q

def Band.code : Band → Byte
  | .normal => 0 | .low => 1 | .cut => 2

def ResetCause.code : ResetCause → Byte
  | .power => 0 | .line => 1 | .link => 2

def BankName.code : BankName → Byte
  | .a => 0 | .b => 1

def ChannelState.code : ChannelState → Byte
  | .disabled => 0 | .idle => 1 | .driving => 2 | .recovering => 3 | .held => 4 | .suspended => 5

def DamperState.code : DamperState → Byte
  | .engaged => 0 | .releasing => 1 | .released => 2 | .engaging => 3

def TableId.code : TableId → Byte
  | .striker => 0 | .damper => 1 | .node => 2 | .supervision => 3 | .note => 4 | .curve => 5
  | .articulation => 6

def portCode : Port → Byte
  | .upstream => 0 | .downstream => 1

/-- The supervision item of a kind (R135). -/
def FaultKind.item : FaultKind → Fin 16
  | .noImpact => 0 | .offTime => 1 | .driverFault => 2 | .supplyLow => 3 | .supplyCut => 4
  | .clockWindow => 5 | .clockLost => 6 | .linkErrors => 7 | .downstreamLost => 8 | .chainTooLong => 9
  | .scheduleFull => 10 | .returnOverflow => 11 | .loadError => 12 | .bankMismatch => 13
  | .commitMismatch => 14 | .configTimeout => 15

def FaultPair.kind : FaultPair → FaultKind
  | .noImpact _ => .noImpact | .offTime _ => .offTime | .driverFault _ => .driverFault
  | .supplyLow => .supplyLow | .supplyCut => .supplyCut | .clockWindow => .clockWindow
  | .clockLost => .clockLost | .linkErrors _ => .linkErrors | .downstreamLost => .downstreamLost
  | .chainTooLong => .chainTooLong | .scheduleFull => .scheduleFull | .returnOverflow => .returnOverflow
  | .loadError _ => .loadError | .bankMismatch => .bankMismatch | .commitMismatch => .commitMismatch
  | .configTimeout => .configTimeout

/-- The subject byte of a fault pair; 0xFF is absent. -/
def FaultPair.subject : FaultPair → Byte
  | .noImpact n => byteOf n.val
  | .offTime n => byteOf n.val
  | .driverFault g => byteOf g.val
  | .linkErrors p => portCode p
  | .loadError t => t.code
  | .supplyLow | .supplyCut | .clockWindow | .clockLost | .downstreamLost | .chainTooLong
  | .scheduleFull | .returnOverflow | .bankMismatch | .commitMismatch | .configTimeout => 0xFF

/-- Conditions are the kinds that R135 names so; the other kinds are events. -/
def FaultKind.isCondition : FaultKind → Bool
  | .driverFault | .supplyLow | .supplyCut | .linkErrors | .downstreamLost | .chainTooLong => true
  | .noImpact | .offTime | .clockWindow | .clockLost | .scheduleFull | .returnOverflow | .loadError
  | .bankMismatch | .commitMismatch | .configTimeout => false

/-- A fault record, 13 bytes (11, Fault record field). Bits 3 to 7 of its flags byte, which the layout does not
name, and bit 0 of an event's, which it does not call meaningful, are sent as 0 (log entry 37, the model's
choice). -/
def FaultRecord.bytes (r : FaultRecord) : List Byte :=
  byteOf r.pair.kind.item.val :: r.pair.subject ::
    (flagBit 0 r.active ||| flagBit 1 r.pair.kind.isCondition ||| flagBit 2 r.clockNotLocked) ::
    (bytes4 r.firstSeen ++ bytes4 r.lastSeen ++ nat2 r.occurrences)

/-- An empty first-fault record: kind 0xFF. The spec does not state its other twelve bytes, so they are
free (log entry 30). -/
def emptyFaultRecord (at_ : Nat) : List Byte :=
  0xFF :: (List.range 12).map (Config.emptyRecordByte at_)

/-! ### Frames (11, Payloads) -/

def markFrame (t : ShowTime) (hop : Byte) (pathDelay : BitVec 24) (quality : Byte) : Frame :=
  ⟨Kind.mark, bytes4 t ++ hop :: bytes3 pathDelay ++ [quality]⟩

def playFrame (ensemble note force articulation : Byte) (target : ShowTime) (choke : Option Half) : Frame :=
  ⟨Kind.play, [ensemble, note, force, articulation] ++ bytes4 target ++ (choke.map bytes2).getD []⟩

def muteFrame (ensemble selector action : Byte) (target : ShowTime) : Frame :=
  ⟨Kind.mute, [ensemble, selector, action] ++ bytes4 target⟩

def setFrame (ensemble variant : Byte) (value : List Byte) : Frame :=
  ⟨Kind.set, ensemble :: variant :: value⟩

def flushFrame (ensemble variant : Byte) (time : List Byte) : Frame :=
  ⟨Kind.flush, ensemble :: variant :: time⟩

def bankswapFrame (position : Byte) (t : ShowTime) (digest : Half) : Frame :=
  ⟨Kind.bankswap, position :: bytes4 t ++ bytes2 digest⟩

def loadOpenFrame (position table : Byte) (start : Half) : Frame :=
  ⟨Kind.loadOpen, position :: table :: bytes2 start⟩

def loadDataFrame (position sequence : Byte) (items : List Byte) : Frame :=
  ⟨Kind.loadData, position :: sequence :: items⟩

def commitFrame (position : Byte) (digest : Half) : Frame := ⟨Kind.commit, position :: bytes2 digest⟩

def askFrame (position subject : Byte) (parameters : List Byte) : Frame :=
  ⟨Kind.ask, position :: subject :: parameters⟩

def clearFrame (position variant : Byte) (pair : List Byte) : Frame :=
  ⟨Kind.clear, position :: variant :: pair⟩

def haltFrame (position : Byte) : Frame := ⟨Kind.halt, [position]⟩

def resumeFrame (position : Byte) : Frame := ⟨Kind.resume, [position]⟩

def restartFrame (position : Byte) : Frame := ⟨Kind.restart, [position]⟩

def probeFrame (originator number : Byte) (hold : Half) : Frame :=
  ⟨Kind.probe, originator :: number :: bytes2 hold⟩

def answerFrame (position subject : Byte) (content : List Byte) : Frame :=
  ⟨Kind.answer, position :: subject :: content⟩

def noticeFrame (position : Byte) (r : FaultRecord) : Frame := ⟨Kind.notice, position :: r.bytes⟩

/-! ### Canonical item layouts and corrections (R5, R6, R7, R162, R163, R177) -/

/-- The size of a table's item in bytes (11, Canonical item layouts). -/
def TableId.itemSize : TableId → Nat
  | .striker => 20 | .damper => 7 | .node => 21 | .supervision => 1 | .note => 6 | .curve => 2
  | .articulation => 2

/-- The item count of a table (01, 10). -/
def TableId.count : TableId → Nat
  | .striker => 24 | .damper => 4 | .node => 1 | .supervision => 16 | .note => 128 | .curve => 512
  | .articulation => 3

/-- Byte i of an item. -/
def at1 (bs : List Byte) (i : Nat) : Byte := bs.getD i 0

/-- The two-byte field at byte i of an item. -/
def at2 (bs : List Byte) (i : Nat) : Half := at1 bs i ++ at1 bs (i + 1)

/-- The three-byte field at byte i of an item. -/
def at3 (bs : List Byte) (i : Nat) : BitVec 24 := at1 bs i ++ at1 bs (i + 1) ++ at1 bs (i + 2)

def StrikerRecord.bytes (r : StrikerRecord) : List Byte :=
  (flagBit 0 r.enabled ||| flagBit 1 r.sense ||| flagBit 2 r.adapt) ::
    (nat2 r.fHard ++ nat2 r.fSoft ++ nat2 r.wMin ++ nat2 r.wMax ++ nat2 r.recovery ++ nat2 r.hDerate
      ++ nat2 r.hCut ++ [byteOf r.cooling] ++ nat2 r.impactWindow ++ int2 r.trimSeed)

/-- A striker record as stored: each field clamped to its range (R162). -/
def StrikerRecord.ofBytes (bs : List Byte) : StrikerRecord where
  enabled := (at1 bs 0).getLsbD 0
  sense := (at1 bs 0).getLsbD 1
  adapt := (at1 bs 0).getLsbD 2
  fHard := min 4095 (at2 bs 1).toNat
  fSoft := min 4095 (at2 bs 3).toNat
  wMin := min 2047 (at2 bs 5).toNat
  wMax := min 2047 (at2 bs 7).toNat
  recovery := (at2 bs 9).toNat
  hDerate := (at2 bs 11).toNat
  hCut := (at2 bs 13).toNat
  cooling := (at1 bs 15).toNat
  impactWindow := min 1023 (at2 bs 16).toNat
  trimSeed := clampInt (-512) 511 (at2 bs 18).toInt

def DamperRecord.bytes (r : DamperRecord) : List Byte :=
  flagBit 0 r.enabled :: (nat2 r.releaseTravel ++ nat2 r.engageTravel ++ nat2 r.chokeHold)

def DamperRecord.ofBytes (bs : List Byte) : DamperRecord where
  enabled := (at1 bs 0).getLsbD 0
  releaseTravel := (at2 bs 1).toNat
  engageTravel := (at2 bs 3).toNat
  chokeHold := (at2 bs 5).toNat

/-- A group address byte: 0xFF is absent (R163). -/
def readGroupAddress (b : Byte) : Option Byte := if b = 0xFF then none else some b

def NodeRecord.bytes (r : NodeRecord) : List Byte :=
  [r.ensemble, r.group1.getD 0xFF, r.group2.getD 0xFF, r.group3.getD 0xFF,
    flagBit 0 r.compensation ||| flagBit 1 r.chainEnd ||| flagBit 2 r.notices
      ||| flagBit 3 r.rotorEnabled ||| flagBit 4 r.indexEnabled]
    ++ nat2 r.markPeriod ++ nat3 r.holdoverLimit ++ nat2 r.setupMargin ++ nat2 r.lateTolerance
    ++ [byteOf r.lowThreshold, byteOf r.cutThreshold, byteOf r.hysteresis, byteOf r.filterTime]
    ++ nat2 r.stepsPerRev ++ [byteOf r.rampStep]

/-- The node record as stored: fields clamped, an ensemble address of 255 as 254 (R163). -/
def NodeRecord.ofBytes (bs : List Byte) : NodeRecord where
  ensemble := if at1 bs 0 = 255 then 254 else at1 bs 0
  group1 := readGroupAddress (at1 bs 1)
  group2 := readGroupAddress (at1 bs 2)
  group3 := readGroupAddress (at1 bs 3)
  compensation := (at1 bs 4).getLsbD 0
  chainEnd := (at1 bs 4).getLsbD 1
  notices := (at1 bs 4).getLsbD 2
  rotorEnabled := (at1 bs 4).getLsbD 3
  indexEnabled := (at1 bs 4).getLsbD 4
  markPeriod := clampNat 100 50000 (at2 bs 5).toNat
  holdoverLimit := clampNat 1000 16777215 (at3 bs 7).toNat
  setupMargin := min 1000 (at2 bs 10).toNat
  lateTolerance := (at2 bs 12).toNat
  lowThreshold := (at1 bs 14).toNat
  cutThreshold := (at1 bs 15).toNat
  hysteresis := (at1 bs 16).toNat
  filterTime := max 1 (at1 bs 17).toNat
  stepsPerRev := clampNat 1 1000 (at2 bs 18).toNat
  rampStep := max 1 (at1 bs 20).toNat

def ReactionClass.code : ReactionClass → Byte
  | .warn => 0 | .hold => 1 | .recover => 2 | .halt => 3

def SupervisionItem.bytes (r : SupervisionItem) : List Byte := [r.reaction.code ||| flagBit 7 r.notice]

def SupervisionItem.ofBytes (bs : List Byte) : SupervisionItem where
  reaction :=
    match (at1 bs 0).getLsbD 1, (at1 bs 0).getLsbD 0 with
    | false, false => .warn
    | false, true => .hold
    | true, false => .recover
    | true, true => .halt
  notice := (at1 bs 0).getLsbD 7

/-- An optional number below n; any other byte is absent (R5). -/
def readBelow (n : Nat) (b : Byte) : Option (Fin n) := if h : b.toNat < n then some ⟨b.toNat, h⟩ else none

/-- A curve number, above 7 stored as 7 (R5, R7). -/
def readCurve (b : Byte) : Fin 8 := ⟨min 7 b.toNat, by omega⟩

/-- The byte of an optional number; 0xFF absent. -/
def optionByte {n : Nat} (v : Option (Fin n)) : Byte := (v.map fun i => byteOf i.val).getD 0xFF

def NoteEntry.bytes (r : NoteEntry) : List Byte :=
  [flag r.enabled, byteOf r.primary.val, optionByte r.alternate, byteOf r.curve.val,
    BitVec.ofInt 8 r.offset, optionByte r.choke]

/-- A note entry as stored; a primary striker above 23 disables it (R5). -/
def NoteEntry.ofBytes (bs : List Byte) : NoteEntry where
  enabled := at1 bs 0 != 0 && (readBelow 24 (at1 bs 1)).isSome
  primary := (readBelow 24 (at1 bs 1)).getD 0
  alternate := readBelow 24 (at1 bs 2)
  curve := readCurve (at1 bs 3)
  offset := clampInt (-16) 15 (at1 bs 4).toInt
  choke := readBelow 4 (at1 bs 5)

/-- A curve item: a width, above 2047 stored as 2047 (R6). -/
def curveOfBytes (bs : List Byte) : Nat := min 2047 (at2 bs 0).toNat

def ArticulationItem.bytes (r : ArticulationItem) : List Byte :=
  [optionByte r.curve, BitVec.ofInt 8 r.offset]

/-- An articulation item as stored: a curve override of 0xFF is absent, 8 to 0xFE stored as 7 (R177). -/
def ArticulationItem.ofBytes (bs : List Byte) : ArticulationItem where
  curve := if at1 bs 0 = 0xFF then none else some (readCurve (at1 bs 0))
  offset := clampInt (-16) 15 (at1 bs 1).toInt

/-! ### Tables as items (R167, R170) -/

/-- The items of a bank's table in index order, each in its canonical layout. -/
def Bank.noteItems (b : Bank) : List (List Byte) := b.notes.toList.map NoteEntry.bytes

def Bank.curveItems (b : Bank) : List (List Byte) := b.curves.toList.map nat2

def Bank.articulationItems (b : Bank) : List (List Byte) := b.articulations.toList.map ArticulationItem.bytes

/-- The items of a table in index order; a banked table is read from the given bank. -/
def Tbs.items (t : Tbs) (bank : Bank) : TableId → List (List Byte)
  | .striker => t.strikers.toList.map StrikerRecord.bytes
  | .damper => t.dampers.toList.map DamperRecord.bytes
  | .node => [t.node.bytes]
  | .supervision => t.supervision.toList.map SupervisionItem.bytes
  | .note => bank.noteItems
  | .curve => bank.curveItems
  | .articulation => bank.articulationItems

/-- The configuration digest: tables 0 to 3 (R167). -/
def Tbs.configDigest (t : Tbs) : Half :=
  crc16 (t.items {} .striker ++ t.items {} .damper ++ t.items {} .node ++ t.items {} .supervision).flatten

/-- A bank digest (R167). -/
def Bank.digest (b : Bank) : Half :=
  crc16 (b.noteItems ++ b.curveItems ++ b.articulationItems).flatten

end Sys2Proof.Machine
end

