-- ==== Sys2Proof/Machine/Flags.lean ====
section
/-! DEFINITION. The status flags of the block: conditions present, effective reaction classes, the lamp (08). -/
namespace Sys2Proof.Machine

/-- The classes R135 allows a kind; CONFIG_TIMEOUT is fixed at WARN. -/
def FaultKind.allowed : FaultKind → List ReactionClass
  | .noImpact | .offTime => [.warn, .hold, .halt]
  | .driverFault => [.warn, .hold, .recover, .halt]
  | .clockLost | .linkErrors => [.warn, .halt]
  | .supplyLow | .supplyCut | .clockWindow | .downstreamLost | .chainTooLong | .scheduleFull
  | .returnOverflow | .loadError | .bankMismatch | .commitMismatch | .configTimeout => [.warn]

/-- The effective class of a kind with a loaded class: RECOVER for an event is HOLD, then a class that is
not allowed is WARN (R136). -/
def FaultKind.effective (k : FaultKind) (loaded : ReactionClass) : ReactionClass :=
  let c := if loaded = .recover ∧ k.isCondition = false then .hold else loaded
  if c ∈ k.allowed then c else .warn

/-- The supervision item of a kind as it stands. -/
def State.supervisionItem (k : FaultKind) (s : State) : SupervisionItem := s.tbs.supervision[k.item]

/-- The effective class of a kind as the supervision table stands (R136). -/
def State.effectiveClass (k : FaultKind) (s : State) : ReactionClass :=
  k.effective (s.supervisionItem k).reaction

/-- The condition of a pair is present (R115, R121, R124, R146, R148); an event is never present. -/
def State.present (s : State) : FaultPair → Bool
  | .driverFault g => s.svu.driverFault[g]
  | .supplyLow => s.sup.band != .normal
  | .supplyCut => s.sup.band == .cut
  | .linkErrors .upstream => s.liu.errorsUp
  | .linkErrors .downstream => s.liu.errorsDown
  | .downstreamLost => s.pdu.downstreamLost
  | .chainTooLong => s.liu.chainTooLong
  | .noImpact _ | .offTime _ | .clockWindow | .clockLost | .scheduleFull | .returnOverflow | .loadError _
  | .bankMismatch | .commitMismatch | .configTimeout => false

/-- The pairs of the condition kinds, in the order of the kind table and then of the subject (R141). -/
def conditionPairs : List FaultPair :=
  [.driverFault 0, .driverFault 1, .driverFault 2, .supplyLow, .supplyCut, .linkErrors .upstream,
   .linkErrors .downstream, .downstreamLost, .chainTooLong]

/-- The conditions present, in that order. -/
def State.presentConditions (s : State) : List FaultPair := conditionPairs.filter s.present

/-- What the lamp shows: the first line that applies (R144). -/
def State.lampPattern (s : State) : Lamp :=
  if s.mdc.mode = .safe ∨ s.mdc.mode = .lockedOut then .steady
  else if s.svu.faults.any fun r =>
      s.effectiveClass r.pair.kind == .hold || s.effectiveClass r.pair.kind == .recover then .fastBlink
  else if s.svu.faults.isEmpty then .off
  else .slowBlink

/-- The output level of a pattern at a local time: an on period begins at each whole multiple of the blink
period (R144). -/
def Lamp.level (localTime : Nat) : Lamp → Bool
  | .off => false
  | .steady => true
  | .slowBlink => decide (localTime % fine 100000 < fine 50000)
  | .fastBlink => decide (localTime % fine 25000 < fine 12500)

/-- The lamp follows a change of mode, of the list or of the classes at that moment (R144). -/
def State.refreshLamp (s : State) : State :=
  if s.lampPattern = s.svu.lamp then s
  else s.onSvu fun v => { v with lamp := s.lampPattern, lampOn := s.lampPattern.level s.localTime }

/-- A blink phase boundary has come: the output is not at its level. -/
def State.blinkReached (s : State) : Bool := s.svu.lampOn != s.svu.lamp.level s.localTime

/-- LAMP_BLINK_PHASE, if it has fallen: the output toggles (R144). -/
def State.takeBlink (s : State) : State :=
  if s.blinkReached then s.onSvu fun v => { v with lampOn := !v.lampOn } else s

end Sys2Proof.Machine
end

