-- ==== Sys2Proof/Machine/Dampers.lean ====
section
/-! DEFINITION. Damper channels (05, R83 to R90). -/
namespace Sys2Proof.Machine

/-- Forced engagement: every damper to ENGAGED at once, coil off, no travel, no hold (R88). -/
def State.forceDampers (s : State) : State := s.onDmc fun _ => {}

/-- Travel starts or is reversed: the coil changes at once and the full travel time runs (R85). -/
def Damper.travel (now : ShowTime) (r : DamperRecord) (a : DamperAction) (choke handedOver : Bool)
    (d : Damper) : Damper :=
  match a with
  | .release =>
    { d with
      state := .releasing, coil := true, travelEnd := some (plusGrains now r.releaseTravel)
      choke := choke, handedOver := handedOver }
  | .engage =>
    { d with
      state := .engaging, coil := false, travelEnd := some (plusGrains now r.engageTravel)
      choke := choke, handedOver := handedOver }

/-- The damper is in the requested position or travelling to it (R85). -/
def Damper.redundantFor (d : Damper) : DamperAction → Bool
  | .release => d.state == .releasing || d.state == .released
  | .engage => d.state == .engaging || d.state == .engaged

/-- The show clock has reached the damper's travel end. -/
def State.travelEndReached (s : State) (d : Fin 4) : Bool :=
  match (s.damper d).travelEnd with
  | none => false
  | some t => reached t s.now

/-- The show clock has reached the damper's hold expiry. -/
def State.holdExpiryReached (s : State) (d : Fin 4) : Bool :=
  match (s.damper d).hold with
  | none => false
  | some t => reached t s.now

/-- A running travel ends at t: RELEASED, or ENGAGED; a choke travel starts its hold (R86, R87). -/
def Damper.arrive (t : ShowTime) (r : DamperRecord) (d : Damper) : Damper :=
  let done := { d with travelEnd := none, choke := false, handedOver := false }
  match d.state with
  | .releasing => { done with state := .released }
  | .engaging =>
    { done with
      state := .engaged
      hold := if d.choke then some (plusGrains t r.chokeHold) else d.hold }
  | .engaged | .released => done

/-- TRAVEL_END, if it has fallen; a travel from a hand-over counts as performed (R86). -/
def State.takeTravelEnd (d : Fin 4) (s : State) : State :=
  match (s.damper d).travelEnd with
  | none => s
  | some t =>
    if reached t s.now then
      let s' := s.setDamper d ((s.damper d).arrive t (s.damperRecord d))
      if (s.damper d).handedOver then
        s'.onSch fun q => { q with damperPerformed := q.damperPerformed + 1 }
      else s'
    else s

/-- CHOKE_HOLD_EXPIRY, if it has fallen: the damper begins RELEASING from the expiry; this travel was not
started by a hand-over (R87). -/
def State.takeHoldExpiry (d : Fin 4) (s : State) : State :=
  match (s.damper d).hold with
  | none => s
  | some t =>
    if reached t s.now then
      s.setDamper d
        ({ s.damper d with hold := none }.travel t (s.damperRecord d) .release false false)
    else s

/-- An entry that passed R84 at damper d: it cancels a running hold, then is redundant, starts travel or
reverses it (R85); a choke entry that finds a hold running restarts it (R87). -/
def Damper.handle (now : ShowTime) (r : DamperRecord) (a : DamperAction) (choke : Bool) (d : Damper) :
    Damper :=
  let cancelled := { d with hold := none }
  if d.redundantFor a then
    if choke && d.state == .engaged && d.hold.isSome then
      { cancelled with hold := some (plusGrains now r.chokeHold) }
    else cancelled
  else cancelled.travel now r a choke true

/-- A damper entry handed over to damper d (R84, R85); a travel time of 0 ends at once (R86). -/
def State.handDamper (d : Fin 4) (a : DamperAction) (choke : Bool) (s : State) : State :=
  if s.mdc.mode ≠ .run ∨ s.sup.band = .cut ∨ (s.damperRecord d).enabled = false then
    s.onSch fun q => { q with damperDropped := q.damperDropped + 1 }
  else
    let s' := s.setDamper d ((s.damper d).handle s.now (s.damperRecord d) a choke)
    if (s.damper d).redundantFor a then
      s'.onSch fun q => { q with damperRedundant := q.damperRedundant + 1 }
    else s'.takeTravelEnd d

/-- A clock step of k: travel ends and hold expiries move, the time remaining is kept (R89). -/
def Damper.moveBy (k : Int) (d : Damper) : Damper :=
  { d with travelEnd := d.travelEnd.map (shiftBy k), hold := d.hold.map (shiftBy k) }

end Sys2Proof.Machine
end

