-- ==== Sys2Proof/Machine/Rotor.lean ====
section
/-! DEFINITION. The rotor generator (05, R92 to R99). -/
namespace Sys2Proof.Machine

/-- The period of a step cycle at rate r (R94). -/
def stepPeriod (r : Nat) : Nat := 100000 / r

/-- A stop: rates 0, output low, no cycle, no align; position and index errors are kept (R97). -/
def Rot.stop (r : Rot) : Rot :=
  { r with target := 0, current := 0, output := false, cycle := none, align := none }

/-- A rising edge at t: the period is fixed from the current rate and the position advances (R94, R95). -/
def Rot.risingEdge (t : ShowTime) (stepsPerRev : Nat) (r : Rot) : Rot :=
  let p := stepPeriod r.current
  { r with
    output := true
    cycle := some { nextChange := plusGrains t (p / 2), period := p }
    position := (r.position + 1) % stepsPerRev }

/-- The conditions under which rotor commands are taken (R92, R96). -/
def State.rotorTakes (s : State) : Bool :=
  s.node.rotorEnabled && s.mdc.mode == .run && s.sup.band != .cut

/-- SET ROTOR_RATE at the rotor (R92). -/
def State.setRate (rate : Nat) (s : State) : State :=
  if s.rotorTakes then s.onRot fun r => { r with target := min 1500 rate } else s

/-- SET ROTOR_ALIGN at the rotor: taken only when T is after now (R96). -/
def State.setAlign (t : ShowTime) (s : State) : State :=
  if s.rotorTakes && !reached t s.now then s.onRot fun r => { r with align := some t } else s

/-- The ramp tick has come (R93). -/
def State.rampReached (s : State) : Bool := decide (s.rot.rampNext ≤ s.localTime)

/-- The current rate after a ramp tick (R93). -/
def rampedRate (current target rampStep : Nat) : Nat :=
  if current < target then min target (current + rampStep)
  else if target < current then max target (current - rampStep)
  else current

/-- The effect of a ramp tick on rate and step cycle (R93). -/
def Rot.ramp (now : ShowTime) (n : NodeRecord) (r : Rot) : Rot :=
  let rate := rampedRate r.current r.target n.rampStep
  let r' := { r with current := rate }
  if r.current = 0 ∧ rate ≠ 0 then r'.risingEdge now n.stepsPerRev
  else if r.current ≠ 0 ∧ rate = 0 then { r' with output := false, cycle := none }
  else r'

/-- RAMP_TICK, if it has fallen (R93). -/
def State.takeRampTick (s : State) : State :=
  if s.rampReached then
    s.onRot fun r => { r.ramp s.now s.node with rampNext := r.rampNext + Config.tickPeriod }
  else s

/-- The show clock has reached the next output change, which is a rising edge. -/
def State.risingReached (s : State) : Bool :=
  match s.rot.cycle with
  | none => false
  | some c => !s.rot.output && reached c.nextChange s.now

/-- The show clock has reached the next output change, which is a falling edge. -/
def State.fallingReached (s : State) : Bool :=
  match s.rot.cycle with
  | none => false
  | some c => s.rot.output && reached c.nextChange s.now

/-- STEP_RISING_EDGE, if it has fallen (R94). -/
def State.takeRisingEdge (s : State) : State :=
  match s.rot.cycle with
  | none => s
  | some c =>
    if s.risingReached then s.onRot (Rot.risingEdge c.nextChange s.node.stepsPerRev) else s

/-- STEP_FALLING_EDGE, if it has fallen: low for the rest of the period (R94). -/
def State.takeFallingEdge (s : State) : State :=
  match s.rot.cycle with
  | none => s
  | some c =>
    if s.fallingReached then
      s.onRot fun r =>
        { r with
          output := false
          cycle := some { c with nextChange := plusGrains c.nextChange (c.period - c.period / 2) } }
    else s

/-- The show clock has reached the pending align. -/
def State.alignReached (s : State) : Bool :=
  match s.rot.align with
  | none => false
  | some t => reached t s.now

/-- ALIGN_TAKES_EFFECT, if it has fallen: the cycle ends and the next rising edge falls P later (R96). -/
def State.takeAlign (s : State) : State :=
  if s.alignReached then
    s.onRot fun r =>
      if r.current = 0 then { r with align := none }
      else
        { r with
          align := none
          output := false
          cycle := some { nextChange := plusGrains s.now (stepPeriod r.current),
                          period := stepPeriod r.current } }
  else s

/-- An index pulse (R95). -/
def State.takeIndexPulse (s : State) : State :=
  if s.node.indexEnabled && s.rot.position != 0 then
    s.onRot fun r =>
      { r with
        lastIndexError := r.position
        indexErrors := satAdd 65535 r.indexErrors 1
        position := 0 }
  else s

/-- A clock step of k moves the next output change; a pending align does not move (R94, R96). -/
def Rot.moveBy (k : Int) (r : Rot) : Rot :=
  { r with cycle := r.cycle.map fun c => { c with nextChange := shiftBy k c.nextChange } }

end Sys2Proof.Machine
end

