-- ==== Sys2Proof/Machine/Resets.lean ====
section
/-! DEFINITION. The beginning and the end of a reset (09, R159; log entry 9). -/
namespace Sys2Proof.Machine

/-- A reset begins: from here on the node drives no output and sends no frame. Drives end without adding
heat, dampers drop, frames in transmission are cut off (R134, R159). -/
def State.beginReset (cause : ResetCause) (endsAt : Option Nat) (s : State) : State :=
  let s1 := s.mapChannels fun _ c => { c with output := false, drive := none }
  let s2 := (s1.forceDampers.onRot Rot.stop).onSvu fun v => { v with lampOn := false }
  let s3 := s2.onLiu fun l => { l with sendingDown := none, sendingUp := none }
  { s3 with resetting := some { cause := cause, endsAt := endsAt } }

/-- A RESTART is handed to the MDC: its reset ends 10 grains of oscillator time later (R125, R159). -/
def State.handRestart (s : State) : State :=
  s.beginReset .link (some (s.localTime + Config.resetTail))

/-- Power-on: the reset ends when the supply and the oscillator are stable, which RESET_END says; the
supply-dip counter becomes 0 (R150, R159). -/
def State.beginPowerOn (s : State) : State :=
  (s.beginReset .power none).onSup fun p => { p with dips := 0 }

/-- The reset line is asserted: a reset that ends 10 grains after the release; over a reset in progress it
is the one that ends last (R159). -/
def State.assertLine (s : State) : State :=
  if s.lineAsserted then s else { s.beginReset .line none with lineAsserted := true }

/-- The reset line is released: the 10 grains of oscillator time of a line reset begin to count (R159). -/
def State.releaseLine (s : State) : State :=
  if s.lineAsserted then
    match s.resetting with
    | some { cause := .line, endsAt := _ } =>
      { s with
        lineAsserted := false
        resetting := some { cause := .line, endsAt := some (s.localTime + Config.resetTail) } }
    | _ => { s with lineAsserted := false }
  else s

/-- RESET_END has fallen: a power-on reset ends when the command says so, a line reset or a RESTART at its
instant (R159). A power-on reset ends so even while the reset line is asserted: the node then runs with
`lineAsserted` true, and only a new assertion begins a line reset (log entry 9, the model's choice). -/
def State.resetEndReached (s : State) : Bool :=
  match s.resetting with
  | none => false
  | some { cause := .power, endsAt := _ } => true
  | some { cause := _, endsAt := none } => false
  | some { cause := _, endsAt := some t } => decide (t ≤ s.localTime)

/-- The reset values of every block, with the given cause; kept are the supply-dip counter but at power-on
(R150), the levels of the input pins, the queue and the model's own counter. -/
def State.resetValues (cause : ResetCause) (s : State) : State :=
  { sup := { dips := if cause = .power then 0 else s.sup.dips, level := s.sup.level }
    svu := { driverInput := s.svu.driverInput }
    mdc := { resetCause := cause }
    lineAsserted := s.lineAsserted
    pending := s.pending
    choices := s.choices }

end Sys2Proof.Machine
end

