-- ==== Sys2Proof/Machine/Link.lean ====
section
/-! DEFINITION. The Cue Link: matching, forward queue, downstream transmitter, return lane (07). -/
namespace Sys2Proof.Machine

/-! ### Addressing (R123) -/

/-- The node's ensemble address, one of its group addresses, or 255. -/
def State.matchesEnsemble (a : Byte) (s : State) : Bool :=
  a == s.node.ensemble || some a == s.node.group1 || some a == s.node.group2 || some a == s.node.group3
    || a == 255

/-- The node's chain position when placed, or 255. -/
def State.matchesPosition (p : Byte) (s : State) : Bool := p == s.liu.position || p == 255

/-- The frame carries the node's own position, and stops here (R125). -/
def State.consumes (p : Byte) (s : State) : Bool := p == s.liu.position && p != 255

/-! ### The downstream transmitter (R116, R126, R127) -/

/-- The copy is a MARK. -/
def ForwardItem.isMark : ForwardItem → Bool
  | .mark _ => true
  | .copy _ _ => false

/-- The copy is discarded at the head of the queue: at the chain end every copy, with the link below lost
every copy but a MARK (R127). -/
def State.discardsAtHead (i : ForwardItem) (s : State) : Bool :=
  s.node.chainEnd || (s.pdu.downstreamLost && !i.isMark)

/-- A forward discard is counted; a discarded RESTART is handed to the MDC (R125), and a probe due with a
discarded MARK is skipped (log entry 15). -/
def State.discardCopy (i : ForwardItem) (s : State) : State :=
  let s' := s.onCounters fun c => { c with forwardDiscards := c.forwardDiscards + 1 }
  match i with
  | .mark { opensProbe := true, .. } => s'.onPdu fun p => { p with probeDue := .none }
  | .mark { opensProbe := false, .. } => s'
  | .copy _ true => s'.handRestart
  | .copy _ false => s'

/-- The path delay written into a forwarded MARK: received, plus residence, plus the downstream average,
saturating (R116). The residence ends when the MARK's last byte has left. -/
def State.forwardedDelay (m : WaitingMark) (s : State) : Nat :=
  min Config.maxPathDelay
    (m.pathDelay + (s.localTime - m.receivedAt + Config.markTransmitTime) + s.pdu.average)

/-- The transmission of a copy begins; a MARK's fields are formed at this moment (R116, R126). -/
def State.transmitCopy (i : ForwardItem) (s : State) : State :=
  s.onLiu fun l =>
    { l with
      sendingDown :=
        match i with
        | .mark m =>
          some { frame := markFrame m.showTime m.hop (BitVec.ofNat 24 (s.forwardedDelay m))
                            (m.quality.lower s.pdu.quality).code
                 job := .mark m.opensProbe }
        | .copy f restart => some { frame := f, job := .copy restart } }

/-- The downstream transmitter at a frame boundary, idle: heads that are discarded leave, and the first one
that is not is transmitted (R126, R127). The first argument bounds the heads looked at. -/
def State.startForward : Nat → State → State
  | 0, s => s
  | n + 1, s =>
    if s.resetting.isSome || s.liu.sendingDown.isSome then s
    else
      match s.liu.forward with
      | [] => s
      | i :: rest =>
        let s' := s.onLiu fun l => { l with forward := rest }
        if s.discardsAtHead i then (s'.discardCopy i).startForward n else s'.transmitCopy i

/-- A copy given to an idle transmitter starts at once (R119). -/
def State.kickForward (s : State) : State := s.startForward s.liu.forward.length

/-- The last waiting copy that is not a MARK. -/
def lastCopy (q : List ForwardItem) : Option ForwardItem := q.reverse.find? fun i => !i.isMark

/-- The queue without its last copy that is not a MARK. -/
def dropLastCopy (q : List ForwardItem) : List ForwardItem := (q.reverse.eraseP fun i => !i.isMark).reverse

/-- A MARK's place: after every MARK waiting and before every other copy (R126). -/
def insertMark (m : WaitingMark) (q : List ForwardItem) : List ForwardItem :=
  q.takeWhile ForwardItem.isMark ++ ForwardItem.mark m :: q.dropWhile ForwardItem.isMark

/-- A MARK copy joins the forward queue, displacing the last other copy of a full one (R126). -/
def State.forwardMark (m : WaitingMark) (s : State) : State :=
  if s.liu.forward.length < Config.forwardCapacity then
    (s.onLiu fun l => { l with forward := insertMark m l.forward }).kickForward
  else
    match lastCopy s.liu.forward with
    | none => s.discardCopy (.mark m)
    | some gone =>
      ((s.onLiu fun l => { l with forward := insertMark m (dropLastCopy l.forward) }).discardCopy
        gone).kickForward

/-- Any other copy joins the tail of the forward queue, or is not queued when it is full (R126). -/
def State.forwardCopy (f : Frame) (restart : Bool) (s : State) : State :=
  if s.liu.forward.length < Config.forwardCapacity then
    (s.onLiu fun l => { l with forward := l.forward ++ [.copy f restart] }).kickForward
  else s.discardCopy (.copy f restart)

/-- What follows the end of a downstream transmission: the due probe's window opens (R111), the probe's
send instant is taken (R111), or a forwarded RESTART is handed to the MDC (R125). -/
def State.endSending (j : SendingJob) (s : State) : State :=
  let s' := s.onLiu fun l => { l with sendingDown := none }
  match j with
  | .mark opensProbe =>
    if opensProbe && s.pdu.probeDue == .afterMark then
      s'.onPdu fun p => { p with probeDue := .window (s.localTime + Config.probeWindow) }
    else s'
  | .probe =>
    s'.onPdu fun p =>
      { p with outstanding := p.outstanding.map fun o => { o with sentAt := some s.localTime } }
  | .copy true => s'.handRestart
  | .copy false => s'

/-- DOWNSTREAM_FRAME_BOUNDARY: the frame in transmission ends, and the head of the queue starts (R126). -/
def State.takeDownBoundary (s : State) : State :=
  let s' :=
    match s.liu.sendingDown with
    | none => s
    | some t => s.endSending t.job
  s'.kickForward

/-! ### The return lane (R128 to R131) -/

/-- The returned PROBE's hold: the time since its receipt, saturating (R112). -/
def State.probeHold (p : HeldProbe) (s : State) : Nat := min 65535 (s.localTime - p.receivedAt)

/-- The upstream transmitter at a frame boundary: what starts (R128). -/
def State.startReturn (s : State) : State :=
  s.onLiu fun l =>
    match l.slot, l.turn, l.relay, l.answer with
    | some p, _, _, _ =>
      { l with
        slot := none
        sendingUp := some (probeFrame p.originator p.number (BitVec.ofNat 16 (s.probeHold p))) }
    | none, .relay, f :: fs, _ => { l with relay := fs, turn := .answer, sendingUp := some f }
    | none, .relay, [], f :: fs => { l with answer := fs, turn := .relay, sendingUp := some f }
    | none, .answer, _, f :: fs => { l with answer := fs, turn := .relay, sendingUp := some f }
    | none, .answer, f :: fs, [] => { l with relay := fs, turn := .answer, sendingUp := some f }
    | none, _, [], [] => { l with sendingUp := none }

/-- A frame given to an idle upstream transmitter starts at once (R119). -/
def State.kickReturn (s : State) : State :=
  if s.liu.sendingUp.isNone then s.startReturn else s

/-- A frame of the node's own joins the answer queue; in a full queue it is discarded and counted (R131). -/
def State.queueAnswer (f : Frame) (onFull : LinkCounters → LinkCounters) (s : State) : State :=
  if s.liu.answer.length < Config.answerCapacity then
    (s.onLiu fun l => { l with answer := l.answer ++ [f] }).kickReturn
  else s.onCounters onFull

/-- A matched ASK is answered, or discarded unanswered when the queue is full (R131, R178). -/
def State.answer (subject : Byte) (content : State → List Byte) (s : State) : State :=
  s.queueAnswer (answerFrame s.liu.position subject (content s))
    fun c => { c with unansweredAsks := c.unansweredAsks + 1 }

/-- A PROBE takes the returned-probe slot, replacing one that waits there (R129). -/
def State.holdProbe (originator number : Byte) (s : State) : State :=
  (s.onLiu fun l =>
    { l with
      slot := some { originator := originator, number := number, receivedAt := s.localTime } }).kickReturn

/-- UPSTREAM_FRAME_BOUNDARY: the frame in transmission ends and the next one starts (R128). -/
def State.takeUpBoundary (s : State) : State := s.startReturn

end Sys2Proof.Machine
end

