-- ==== Sys2Proof/Machine/Schedule.lean ====
section
/-! DEFINITION. The strike schedule as such: order, insertion, flushes, counters (03). -/
namespace Sys2Proof.Machine

/-- The entry is a strike entry (R38). -/
def Entry.isStrike (e : Entry) : Bool :=
  match e.work with
  | .strike .. => true
  | .damper .. => false

/-- How many strike entries a list of entries holds. -/
def strikeCount (es : List Entry) : Nat := es.countP Entry.isStrike

/-- How many damper entries a list of entries holds. -/
def damperCount (es : List Entry) : Nat := es.countP fun e => !e.isStrike

/-- A number as an increase of a wrapping counter. -/
def asCount (n : Nat) : Counter := BitVec.ofNat 32 n

/-- An entry's place: after every pending entry whose action time is not after its own (R39). -/
def insertEntry (e : Entry) : List Entry → List Entry
  | [] => [e]
  | x :: xs => if reached x.action e.action then x :: insertEntry e xs else e :: x :: xs

/-- Free places (R41). -/
def Sch.free (q : Sch) : Nat := Config.scheduleCapacity - q.entries.length

/-- The entries of one request are inserted together, in order, and counted as accepted (R41). -/
def Sch.insertAll (es : List Entry) (q : Sch) : Sch :=
  { q with
    entries := es.foldl (fun l e => insertEntry e l) q.entries
    accepted := q.accepted + asCount (strikeCount es)
    damperAccepted := q.damperAccepted + asCount (damperCount es) }

/-- Entries are removed without hand-over and counted as flushed (03, Flushes). -/
def Sch.flush (p : Entry → Bool) (q : Sch) : Sch :=
  let gone := q.entries.filter p
  { q with
    entries := q.entries.filter fun e => !p e
    flushed := q.flushed + asCount (strikeCount gone)
    damperFlushed := q.damperFlushed + asCount (damperCount gone) }

/-- A flush of every pending entry (R49, R50, R51). -/
def State.flushSchedule (s : State) : State := s.onSch (Sch.flush fun _ => true)

/-- A damper entry whose action time is not after now. -/
def Entry.isDueDamper (now : ShowTime) (e : Entry) : Bool := !e.isStrike && reached e.action now

/-- The damper entries that are due leave the schedule as their channels drop them once the mode is not RUN,
each counted as dropped (R84, check 1; R90). -/
def State.dropDueDampers (s : State) : State :=
  s.onSch fun q =>
    { q with
      entries := q.entries.filter fun e => !e.isDueDamper s.now
      damperDropped := q.damperDropped + asCount (q.entries.countP (Entry.isDueDamper s.now)) }

/-- One more strike dropped at due (R44, R45). -/
def DropCounters.add : DropReason → DropCounters → DropCounters
  | .late, c => { c with late := c.late + 1 }
  | .busy, c => { c with busy := c.busy + 1 }
  | .outOfService, c => { c with outOfService := c.outOfService + 1 }
  | .hot, c => { c with hot := c.hot + 1 }
  | .noSupply, c => { c with noSupply := c.noSupply + 1 }
  | .quieted, c => { c with quieted := c.quieted + 1 }

/-- Dropped-at-due: the sum of the six counters (R53). -/
def DropCounters.total (c : DropCounters) : Counter :=
  c.late + c.busy + c.outOfService + c.hot + c.noSupply + c.quieted

/-- One strike dropped at due is counted (R45). -/
def State.countDrop (r : DropReason) (s : State) : State :=
  s.onSch fun q => { q with dropped := q.dropped.add r }

/-- CLEAR statistics at the schedule (R55). -/
def Sch.clearStatistics (q : Sch) : Sch :=
  { entries := q.entries, accepted := asCount (strikeCount q.entries) }

/-- The head entry is not after now (R43). -/
def State.headReached (s : State) : Bool :=
  match s.sch.entries with
  | [] => false
  | e :: _ => reached e.action s.now

end Sys2Proof.Machine
end

