-- ==== Sys2Proof/Machine/Supervision.lean ====
section
/-! DEFINITION. The mode, entry into SAFE, and fault reports: the ONE operation by which every block's trouble
is taken (08, R135 to R149; 09, R151 to R157). -/
namespace Sys2Proof.Machine

/-! ### The mode -/

/-- The mode changes: the load pointer closes and the lamp follows (R144, R151). -/
def State.setMode (m : Mode) (s : State) : State :=
  ((s.onMdc fun c => { c with mode := m }).onTbs fun t => { t with pointer := none }).refreshLamp

/-- What stops the actuators on entering SAFE and on entering CUT: drives truncated, dampers forced to
ENGAGED, rotor stopped (R67, R88, R97). -/
def State.stopActuators (s : State) : State := (s.truncateAll.forceDampers).onRot Rot.stop

/-- Entry into SAFE (R157). A damper entry that is due at this very instant meets the mode change first and is
dropped by check 1 of R84 (R90, last row); every other pending entry is flushed and counted as flushed (R50), a
strike entry that is due at this instant among them (R52; log entry 32). -/
def State.enterSafe (s : State) : State := s.stopActuators.dropDueDampers.flushSchedule.setMode .safe

/-- The MDC takes a request for SAFE: into SAFE from RUN, no change in any other mode (R155). -/
def State.requestSafe (s : State) : State := if s.mdc.mode = .run then s.enterSafe else s

/-! ### Marks -/

/-- The pair's hold mark is added to its channels (R68, R69, R139); other pairs hold no striker. -/
def State.holdPair (p : FaultPair) (s : State) : State :=
  match p with
  | .noImpact n => s.setChannel n ((s.channel n).holdTiming false)
  | .offTime n => s.setChannel n ((s.channel n).holdTiming true)
  | .driverFault g =>
    s.mapChannels fun n c => if groupOf n = g then c.holdDriver s.now (s.strikerRecord n) else c
  | .supplyLow | .supplyCut | .clockWindow | .clockLost | .linkErrors _ | .downstreamLost | .chainTooLong
  | .scheduleFull | .returnOverflow | .loadError _ | .bankMismatch | .commitMismatch | .configTimeout => s

/-- The suspend mark of the group's channels is set (R68). A DRIVER_FAULT that is re-added comes here too, by its
class RECOVER: where it started under another class, so that no mark was set, the marks are set then, though R141
also says that a clear does not change them (log entry 36, the model's choice). -/
def State.suspendGroup (p : FaultPair) (s : State) : State :=
  match p with
  | .driverFault g =>
    s.mapChannels fun n c => if groupOf n = g then c.suspend s.now (s.strikerRecord n) else c
  | .noImpact _ | .offTime _ | .supplyLow | .supplyCut | .clockWindow | .clockLost | .linkErrors _
  | .downstreamLost | .chainTooLong | .scheduleFull | .returnOverflow | .loadError _ | .bankMismatch
  | .commitMismatch | .configTimeout => s

/-- The suspend mark of the group's channels is cleared at the condition's end (R138). -/
def State.unsuspendGroup (g : Fin 3) (s : State) : State :=
  s.mapChannels fun n c => if groupOf n = g then { c with suspended := false } else c

/-- The pair's hold mark is removed from every channel that holds it (R70, R140). -/
def State.releasePair (p : FaultPair) (s : State) : State :=
  s.mapChannels fun n c =>
    match p with
    | .noImpact m => if n = m then { c with marks := { c.marks with noImpact := false } } else c
    | .offTime m => if n = m then { c with marks := { c.marks with offTime := false } } else c
    | .driverFault g =>
      if groupOf n = g then { c with marks := { c.marks with driverFault := false } } else c
    | _ => c

/-- A pair that is re-added by the action that removes it keeps its hold marks if its class is HOLD (R140). -/
def State.keepsMarks (p : FaultPair) (s : State) : Bool :=
  s.present p && s.effectiveClass p.kind == .hold

/-- The release of a pair's marks at a removal, with the exception of R140. -/
def State.releaseRemoved (p : FaultPair) (s : State) : State :=
  if s.keepsMarks p then s else s.releasePair p

/-- Every hold mark is released, with the exception of R140. -/
def State.releaseAll (s : State) : State :=
  s.mapChannels fun n c =>
    { c with
      marks :=
        { driverFault := c.marks.driverFault && s.keepsMarks (.driverFault (groupOf n)) } }

/-! ### Reports -/

/-- The reaction of R139 to a report of the pair. -/
def State.react (p : FaultPair) (s : State) : State :=
  match s.effectiveClass p.kind with
  | .warn => s
  | .hold => s.holdPair p
  | .recover => s.suspendGroup p
  | .halt => s.requestSafe

/-- The record of a report that is appended now (R137). -/
def State.newRecord (p : FaultPair) (s : State) : FaultRecord :=
  { pair := p, firstSeen := s.now, clockNotLocked := s.scu.sync.notLocked, lastSeen := s.now,
    occurrences := 1, active := p.kind.isCondition }

/-- A record of the pair after one more report (R137). -/
def FaultRecord.again (now : ShowTime) (r : FaultRecord) : FaultRecord :=
  { r with
    lastSeen := now
    occurrences := satAdd 65535 r.occurrences 1
    active := r.pair.kind.isCondition }

/-- A NOTICE is asked for a record just appended, if notices are enabled for it (R131, R143). -/
def State.sendNotice (r : FaultRecord) (s : State) : State :=
  if s.node.notices && (s.supervisionItem r.pair.kind).notice then
    s.queueAnswer (noticeFrame s.liu.position r)
      fun c => { c with noticeDiscards := c.noticeDiscards + 1 }
  else s

/-- The list holds a record of the pair. -/
def Svu.has (v : Svu) (p : FaultPair) : Bool := v.faults.any fun r => r.pair == p

/-- A new record at the end of the list, copied into an empty first-fault record (R137, R142). -/
def State.appendRecord (r : FaultRecord) (s : State) : State :=
  ((s.onSvu fun v =>
      { v with faults := v.faults ++ [r], first := some (v.first.getD r) }).refreshLamp).sendNotice r

/-- A report is stored: an update, an append, or a count of overflow (R137). -/
def State.storeReport (p : FaultPair) (s : State) : State :=
  if s.svu.has p then
    s.onSvu fun v =>
      { v with faults := v.faults.map fun r => if r.pair = p then r.again s.now else r }
  else if s.svu.faults.length < Config.faultCapacity then s.appendRecord (s.newRecord p)
  else s.onSvu fun v => { v with overflow := satAdd 255 v.overflow 1 }

/-- A report of an event, or of the start of a condition (R137, R139). -/
def State.report (p : FaultPair) (s : State) : State := (s.storeReport p).react p

/-- The record of a pair goes inactive (R138). -/
def State.deactivate (p : FaultPair) (s : State) : State :=
  s.onSvu fun v =>
    { v with faults := v.faults.map fun r => if r.pair = p then { r with active := false } else r }

/-- A report of the end of a condition; the end of DRIVER_FAULT clears its group's suspend marks (R138). -/
def State.reportEnd (p : FaultPair) (s : State) : State :=
  match p with
  | .driverFault g => (s.deactivate p).unsuspendGroup g
  | .noImpact _ | .offTime _ | .supplyLow | .supplyCut | .clockWindow | .clockLost | .linkErrors _
  | .downstreamLost | .chainTooLong | .scheduleFull | .returnOverflow | .loadError _ | .bankMismatch
  | .commitMismatch | .configTimeout => s.deactivate p

/-- The list replaced; the lamp follows (R144). -/
def State.setFaults (l : List FaultRecord) (s : State) : State :=
  (s.onSvu fun v => { v with faults := l }).refreshLamp

/-- Present conditions are re-added as new records, each a report (R141) with its class (log entries 20, 36). -/
def State.readd (ps : List FaultPair) (s : State) : State := ps.foldl (fun s p => s.report p) s

/-- CLEAR of one record (R141). The condition re-added is a report with its class (R139, R141): one of class
HALT re-added in RUN enters SAFE, which closes the load pointer, though R171 has the fault variants of CLEAR
leave mode and pointer alone (log entry 20). -/
def State.clearPair (p : FaultPair) (s : State) : State :=
  if s.svu.has p then
    let s' := (s.setFaults (s.svu.faults.filter fun r => r.pair != p)).releaseRemoved p
    if s'.present p then s'.report p else s'
  else s

/-- CLEAR of all records: every record removed, every hold released, overflow 0; present conditions are
re-added in the order of their removed records, then those that had none in kind order (R141). Each is a
report with its class, so one of class HALT re-added in RUN enters SAFE and closes the load pointer (log
entry 20, as at `clearPair`). -/
def State.clearAll (s : State) : State :=
  let old := s.svu.faults.map fun r => r.pair
  let again := old.filter s.present ++ s.presentConditions.filter fun p => !old.contains p
  (((s.setFaults []).onSvu fun v => { v with overflow := 0 }).releaseAll).readd again

/-- The list and the first-fault record emptied by a successful COMMIT (R142). -/
def State.emptyFaults (s : State) : State :=
  (s.onSvu fun v => { v with first := none }).clearAll

/-- The kinds that leave the list when the band leaves CUT (R149). -/
def FaultKind.clearedAfterCut : FaultKind → Bool
  | .supplyLow | .supplyCut | .driverFault => true
  | .noImpact | .offTime | .clockWindow | .clockLost | .linkErrors | .downstreamLost | .chainTooLong
  | .scheduleFull | .returnOverflow | .loadError | .bankMismatch | .commitMismatch | .configTimeout => false

/-- The clearing on leaving CUT: records of supply and driver faults removed, DRIVER_FAULT holds released,
the conditions still present re-added, SUPPLY_LOW first (R149). -/
def State.clearAfterCut (s : State) : State :=
  let s' := s.setFaults (s.svu.faults.filter fun r => !r.pair.kind.clearedAfterCut)
  let s'' := allGroups.foldl (fun s g => s.releaseRemoved (.driverFault g)) s'
  s''.readd ((.supplyLow :: allGroups.map .driverFault).filter s''.present)

end Sys2Proof.Machine
end

