-- ==== Sys2Proof/Machine/Strikes.lean ====
section
/-! DEFINITION. Strikes: hand-over at due, drive start, impact verification (03, R43 to R46; 04, R60 to R79). -/
namespace Sys2Proof.Machine

/-! ### Impact verification -/

/-- The open window closes as a miss; the third in a row is reported (R76, R77). -/
def State.closeAsMiss (n : Fin 24) (s : State) : State :=
  let c := s.channel n
  let run := c.missRun + 1
  let s' :=
    s.setChannel n
      { c with window := none, outlierRun := 0, missRun := if 3 ≤ run then 0 else run }
  if 3 ≤ run then s'.report (.noImpact n) else s'

/-- IMPACT_WINDOW_END, if it has fallen (R76). -/
def State.takeWindowEnd (n : Fin 24) (s : State) : State :=
  if s.windowPassed n then s.closeAsMiss n else s

/-- The trim after a good impact of error e (R75). -/
def adaptedTrim (r : StrikerRecord) (trim e : Int) : Int :=
  if r.adapt then clampInt (-512) 511 (trim + e.tdiv 4) else trim

/-- A good impact: trim corrected, runs 0 (R75). -/
def State.goodImpact (n : Fin 24) (e : Int) (s : State) : State :=
  let c := s.channel n
  s.setChannel n
    { c with
      window := none, missRun := 0, outlierRun := 0
      trim := adaptedTrim (s.strikerRecord n) c.trim e }

/-- An outlier; the third in a row is reported (R75, R77). -/
def State.outlierImpact (n : Fin 24) (s : State) : State :=
  let c := s.channel n
  let run := c.outlierRun + 1
  let s' :=
    s.setChannel n
      { c with window := none, missRun := 0, outlierRun := if 3 ≤ run then 0 else run }
  if 3 ≤ run then s'.report (.offTime n) else s'

/-- A stray impact is counted (R78). -/
def State.strayImpact (s : State) : State := s.onStc fun t => { t with stray := t.stray + 1 }

/-- An impact pulse at striker n: judged within an open window, else stray; ignored without sense (R74,
R75, R78). -/
def State.takeImpact (n : Fin 24) (s : State) : State :=
  let r := s.strikerRecord n
  if r.sense then
    match (s.channel n).window with
    | none => s.strayImpact
    | some expected =>
      let e := signedDiff s.now expected
      if e.natAbs ≤ r.impactWindow / 2 then s.goodImpact n e
      else if e.natAbs ≤ r.impactWindow then s.outlierImpact n
      else s.strayImpact
  else s

/-! ### Drive start -/

/-- Why a strike entry handed to channel n is dropped, if it is: the first check that applies (R60). -/
def State.strikeCheck (n : Fin 24) (s : State) : Option DropReason :=
  let st := s.channelState n
  if s.mdc.mode ≠ .run then some .outOfService
  else if s.sup.band = .cut then some .noSupply
  else if st.outOfService then some .outOfService
  else if st = .driving ∨ st = .recovering
      ∨ ((s.channel n).busyUntil.any fun t => before s.now t) then some .busy
  else if (s.strikerRecord n).hCutEff ≤ (s.channel n).heat then some .hot
  else if s.acu.ceiling = 0 then some .quieted
  else none

/-- The width after the heat derate (R61, step 1). -/
def deratedWidth (r : StrikerRecord) (heat w1 : Nat) : Nat :=
  if heat ≤ r.hDerate then w1 else w1 * (r.hCutEff - heat) / (r.hCutEff - r.hDerate)

/-- The final width (R61). -/
def finalWidth (r : StrikerRecord) (heat ceiling w1 : Nat) : Nat :=
  clampNat r.wMinEff r.wMax (min (deratedWidth r heat w1) ceiling)

/-- The end of a reserved window that begins at D (R27). -/
def StrikerRecord.windowEnd (r : StrikerRecord) (d : ShowTime) : ShowTime :=
  plusGrains d (r.wMax + r.recovery)

/-- A drive of width w starts now for an entry with the given action time and expected impact (R62). A late
one may find the end of its reserved window reached already: its busy-until is lapsed from the start (R63).
An earlier window still open closes as a miss; the new one opens if the drive still runs, and closes at
once if its end has passed (R74; log entry 14). -/
def State.startDrive (n : Fin 24) (action expected : ShowTime) (w : Nat) (s : State) : State :=
  let c := s.channel n
  let r := s.strikerRecord n
  let s1 :=
    s.setChannel n
      { c with
        output := w != 0
        drive := some { start := s.now, width := w }
        busyUntil := lapsing s.now (some (r.windowEnd action)) }
  let s2 := if c.window.isSome then s1.closeAsMiss n else s1
  let s3 :=
    if r.sense && (s2.channel n).drive.isSome then
      s2.setChannel n { s2.channel n with window := some expected }
    else s2
  s3.takeWindowEnd n

/-- A strike entry given to channel n: a drive end or recovery end of this instant is taken first (R60);
then the entry is dropped, or its drive starts (R45, R61, R62). -/
def State.handStrike (n : Fin 24) (action expected : ShowTime) (w1 : Nat) (s : State) : State :=
  let s' := (s.takeDriveEnd n).takeRecoveryEnd n
  match s'.strikeCheck n with
  | some reason => s'.countDrop reason
  | none =>
    let w := finalWidth (s'.strikerRecord n) (s'.channel n).heat s'.acu.ceiling w1
    (s'.onSch fun q => { q with started := q.started + 1 }).startDrive n action expected w

end Sys2Proof.Machine
end

