-- ==== Sys2Proof/Machine/Handover.lean ====
section
/-! DEFINITION. Due and hand-over (03, R43 to R46). -/
namespace Sys2Proof.Machine

/-- An entry removed from the schedule is handed over: later than L_t it is dropped LATE, otherwise it is
given to its channel (R44, R45, R46). -/
def State.handOver (e : Entry) (s : State) : State :=
  let isLate := decide ((s.node.lateTolerance : Int) < signedDiff s.now e.action)
  match e.work with
  | .strike n w1 expected =>
    if isLate then s.countDrop .late else s.handStrike n e.action expected w1
  | .damper d a choke =>
    if isLate then s.onSch fun q => { q with damperDropped := q.damperDropped + 1 }
    else s.handDamper d a choke

/-- Heads that are not after now are removed and handed over, each in its turn (R43). The first argument
bounds the entries looked at. -/
def State.dueLoop : Nat → State → State
  | 0, s => s
  | k + 1, s =>
    match s.sch.entries with
    | [] => s
    | e :: rest =>
      if reached e.action s.now then
        ((s.onSch fun q => { q with entries := rest }).handOver e).dueLoop k
      else s

/-- DUE: every entry that is not after now, in order (R43). -/
def State.takeDue (s : State) : State := s.dueLoop s.sch.entries.length

end Sys2Proof.Machine
end

