-- ==== Sys2Proof/Machine/Reception.lean ====
section
/-! DEFINITION. Reception: frame counts, leak counters, matching and forwarding of every frame kind (07, R120
to R125). -/
namespace Sys2Proof.Machine

/-- LINK_ERRORS of a port ends when its leak counter falls below 32 (R121). -/
def State.leakFell (p : Port) (s : State) : State :=
  match p with
  | .upstream =>
    if s.liu.errorsUp ∧ s.liu.leakUp < 32 then
      (s.onLiu fun l => { l with errorsUp := false }).reportEnd (.linkErrors .upstream)
    else s
  | .downstream =>
    if s.liu.errorsDown ∧ s.liu.leakDown < 32 then
      (s.onLiu fun l => { l with errorsDown := false }).reportEnd (.linkErrors .downstream)
    else s

/-- LINK_ERRORS of a port starts when its leak counter reaches 64 (R121). -/
def State.leakRose (p : Port) (s : State) : State :=
  match p with
  | .upstream =>
    if s.liu.errorsUp = false ∧ 64 ≤ s.liu.leakUp then
      (s.onLiu fun l => { l with errorsUp := true }).report (.linkErrors .upstream)
    else s
  | .downstream =>
    if s.liu.errorsDown = false ∧ 64 ≤ s.liu.leakDown then
      (s.onLiu fun l => { l with errorsDown := true }).report (.linkErrors .downstream)
    else s

/-- A good frame on a port: counted, and the leak counter falls by 1 (R120, R121). Of every frame this is the
first effect, the end of LINK_ERRORS included, so that what the frame itself does sees it done: R133 says so
of the good-frame counter only (log entry 34, the model's choice). -/
def State.countGood (p : Port) (s : State) : State :=
  (s.onLiu fun l =>
    match p with
    | .upstream =>
      { l with leakUp := l.leakUp - 1, counters := { l.counters with upGood := l.counters.upGood + 1 } }
    | .downstream =>
      { l with
        leakDown := l.leakDown - 1
        counters := { l.counters with downGood := l.counters.downGood + 1 } }).leakFell p

/-- A bad frame on a port: counted, and the leak counter rises by 8 (R120, R121). -/
def State.countBad (p : Port) (s : State) : State :=
  (s.onLiu fun l =>
    match p with
    | .upstream =>
      { l with
        leakUp := satAdd 255 l.leakUp 8
        counters := { l.counters with upBad := l.counters.upBad + 1 } }
    | .downstream =>
      { l with
        leakDown := satAdd 255 l.leakDown 8
        counters := { l.counters with downBad := l.counters.downBad + 1 } }).leakRose p

/-- A performance frame: handed to its owner when the ensemble address matches; always forwarded (R123,
R125). The leak counter comes before the owner's effect (log entry 34). -/
def State.performance (ensemble : Byte) (f : Frame) (owner : State → State) (s : State) : State :=
  let s1 := s.countGood .upstream
  let s2 := if s1.matchesEnsemble ensemble then owner s1 else s1
  s2.forwardCopy f false

/-- A management frame: handed to its owner when the position matches; consumed when it carries the node's
own position, otherwise forwarded (R123, R125). The leak counter and the end of LINK_ERRORS come before the
owner's effect, so an ASK LINK, an ASK FAULTS or a CLEAR sees them (log entry 34, the model's choice). -/
def State.management (position : Byte) (f : Frame) (owner : State → State) (s : State) : State :=
  let s1 := s.countGood .upstream
  let s2 := if s1.matchesPosition position then owner s1 else s1
  if s1.consumes position then s2 else s2.forwardCopy f false

/-- A RESTART: handed to the MDC at once when it is consumed, and when its forwarding is done otherwise
(R125, R160). -/
def State.takeRestart (position : Byte) (s : State) : State :=
  let s1 := s.countGood .upstream
  if s1.consumes position then s1.handRestart
  else s1.forwardCopy (restartFrame position) (s1.matchesPosition position)

/-- An upstream frame of unknown kind or a return-lane kind (R122). -/
def State.takeUnknownKind (kind : Byte) (payload : List Byte) (s : State) : State :=
  ((s.countGood .upstream).onCounters fun c => { c with unknownKind := c.unknownKind + 1 }).forwardCopy
    ⟨kind, payload⟩ false

/-- An upstream frame of known kind and wrong length; a PROBE is not forwarded (R122). -/
def State.takeMalformed (kind : Byte) (payload : List Byte) (s : State) : State :=
  let s1 := (s.countGood .upstream).onCounters fun c => { c with malformed := c.malformed + 1 }
  if kind = Kind.probe then s1 else s1.forwardCopy ⟨kind, payload⟩ false

/-- A PROBE on the upstream port: consumed and held for return (R112, R129). -/
def State.takeProbe (originator number : Byte) (s : State) : State :=
  (s.countGood .upstream).holdProbe originator number

/-! ### The downstream port (R130) -/

/-- A frame to be relayed joins the relay queue, or is lost with RETURN_OVERFLOW (R130). -/
def State.relay (f : Frame) (s : State) : State :=
  if s.liu.relay.length < Config.relayCapacity then
    (s.onLiu fun l => { l with relay := l.relay ++ [f] }).kickReturn
  else
    (s.onCounters fun c => { c with relayDiscards := c.relayDiscards + 1 }).report .returnOverflow

/-- A sample is taken into the average (R114). -/
def Pdu.takeSample (sample : Nat) (p : Pdu) : Pdu :=
  if p.samples = 0 ∨ 64 < ((sample : Int) - p.average).natAbs then
    { p with average := sample, samples := 1, quality := .coarse }
  else
    let count := satAdd 255 p.samples 1
    { p with
      average := ((p.average : Int) + ((sample : Int) - p.average).tdiv 16).toNat
      samples := count
      quality := if 64 ≤ count then .fine else p.quality }

/-- The loop measured by a returned PROBE, less the hold and the turnaround of 48, halved (R113). -/
def probeSample (loop hold : Int) : Nat := ((loop - hold - 48) / 2).toNat

/-- The loop L of the outstanding probe (R113). -/
def State.probeLoop (o : OutstandingProbe) (s : State) : Int :=
  match o.sentAt with
  | some t => (s.localTime : Int) - t
  | none => 0

/-- A PROBE on the downstream return lane: a sample if it is the outstanding one (R113, R115). -/
def State.probeReturned (number : Byte) (hold : Half) (s : State) : State :=
  match s.pdu.outstanding with
  | none => s
  | some o =>
    if o.number = number then
      let s' :=
        s.onPdu fun p =>
          { (p.takeSample (probeSample (s.probeLoop o) hold.toNat)) with
            outstanding := none, missing := 0, downstreamLost := false }
      if s.pdu.downstreamLost then s'.reportEnd .downstreamLost else s'
    else s

/-- A returned PROBE on the downstream port (R113, R130). -/
def State.takeReturnedProbe (number : Byte) (hold : Half) (s : State) : State :=
  (s.countGood .downstream).probeReturned number hold

/-- A good frame on the downstream port: relayed unread, but for a PROBE, which is the PDU's when its length
is right and malformed otherwise (R130). -/
def State.takeRelayFrame (kind : Byte) (payload : List Byte) (s : State) : State :=
  if kind = Kind.probe then
    match payload with
    | [_, number, h1, h0] => s.takeReturnedProbe number (h1 ++ h0)
    | _ =>
      (s.countGood .downstream).onCounters fun c => { c with malformed := c.malformed + 1 }
  else (s.countGood .downstream).relay ⟨kind, payload⟩

/-! ### Probes of the node's own (R111, R115) -/

/-- The due probe can be sent: a frame boundary with an empty forward queue within its window (R111, R127). -/
def State.probeSendable (s : State) : Bool :=
  match s.pdu.probeDue with
  | .window expires =>
    decide (s.localTime ≤ expires) && s.liu.sendingDown.isNone && s.liu.forward.isEmpty
      && s.pdu.outstanding.isNone && !s.node.chainEnd
  | .none | .afterMark => false

/-- PROBE_SEND, if it has fallen: the probe starts and becomes the outstanding one (R111). -/
def State.takeProbeSend (s : State) : State :=
  if s.probeSendable then
    (s.onLiu fun l =>
      { l with
        sendingDown :=
          some { frame := probeFrame l.position s.pdu.nextProbe 0, job := .probe } }).onPdu fun p =>
      { p with
        probeDue := .none
        outstanding := some { number := p.nextProbe, sentAt := none }
        nextProbe := p.nextProbe + 1 }
  else s

/-- The due probe's 16 grains have passed (R111). -/
def State.probeWindowReached (s : State) : Bool :=
  match s.pdu.probeDue with
  | .window expires => decide (expires < s.localTime)
  | .none | .afterMark => false

/-- PROBE_WINDOW_EXPIRY, if it has fallen: the probe is skipped (R111). -/
def State.takeProbeWindow (s : State) : State :=
  if s.probeWindowReached then s.onPdu fun p => { p with probeDue := .none } else s

/-- The outstanding probe's 256 grains have passed (R115). -/
def State.probeTimeoutReached (s : State) : Bool :=
  match s.pdu.outstanding with
  | some { number := _, sentAt := some t } => decide (t + Config.probeTimeout ≤ s.localTime)
  | _ => false

/-- A missing sample: the fourth in a row loses the downstream link (R115). -/
def State.missSample (s : State) : State :=
  let s' := s.onPdu fun p => { p with outstanding := none, missing := min 4 (p.missing + 1) }
  if s.pdu.missing = 3 then
    let s'' :=
      s'.onPdu fun p =>
        { p with average := 0, samples := 0, quality := .none, downstreamLost := true }
    if s.pdu.downstreamLost then s'' else s''.report .downstreamLost
  else s'

/-- PROBE_TIMEOUT, if it has fallen (R115). -/
def State.takeProbeTimeout (s : State) : State :=
  if s.probeTimeoutReached then s.missSample else s

/-- A write that sets chain end to yes gives the PDU its reset values but for the next probe number, and
ends DOWNSTREAM_LOST (R117). -/
def State.becomeChainEnd (s : State) : State :=
  let s' := s.onPdu fun p => { nextProbe := p.nextProbe }
  if s.pdu.downstreamLost then s'.reportEnd .downstreamLost else s'

end Sys2Proof.Machine
end

