-- ==== Sys2Proof/Machine/Clock.lean ====
section
/-! DEFINITION. The show clock: bank swaps by its time, steps, time marks, supervision, holdover (06; 01, R10,
R11). -/
namespace Sys2Proof.Machine

/-! ### The pending bank swap -/

/-- The other bank. -/
def BankName.other : BankName → BankName
  | .a => .b
  | .b => .a

/-- A swap takes effect: the selector changes, a load pointer open on a banked table closes (R11). -/
def Tbs.swap (t : Tbs) : Tbs :=
  { t with
    playBank := t.playBank.other
    pendingSwap := none
    pointer := t.pointer.filter fun p => !p.table.banked }

/-- The show clock has reached the pending swap time (R10). -/
def State.swapReached (s : State) : Bool :=
  match s.tbs.pendingSwap with
  | none => false
  | some t => reached t s.now

/-- SWAP_TIME_REACHED, if it has fallen (R10). -/
def State.takeSwapTime (s : State) : State := if s.swapReached then s.onTbs Tbs.swap else s

/-- The sync state changes; entering UNLOCKED or ACQUIRING takes a pending swap into effect (R10). -/
def State.enterSync (x : SyncState) (s : State) : State :=
  let s' := s.onScu fun c => { c with sync := x }
  if x.notLocked ∧ s.tbs.pendingSwap.isSome then s'.onTbs Tbs.swap else s'

/-! ### Steps (R108) -/

/-- A step of k at the schedule (R47, R48). -/
def State.scheduleStep (k : Int) (s : State) : State :=
  if Config.horizon < k.natAbs then s.flushSchedule
  else if 0 < k then s.takeDue
  else s.onSch (Sch.flush fun e => decide ((Config.horizon : Int) < signedDiff e.action s.now))

/-- What a step of k, taken from now, moves: running drives and recoveries, damper travels and holds, the
rotor's next output change (R66, R89, R94); and the busy-untils it lapses (R63). -/
def State.moveTimes (k : Int) (s : State) : State :=
  ((s.mapChannels fun _ c => c.moveBy k s.now).mapDampers (Damper.moveBy k)).onRot (Rot.moveBy k)

/-- The clock set by a step of k, its slew correction cleared (R108). -/
def Scu.stepped (k : Int) (c : Scu) : Scu := { c with now := shiftBy k c.now, slew := 0 }

/-- A step of k: the clock is set and the slew correction cleared, and every block takes the step (R108). A
step of size 0 changes nothing else. The order of the blocks is log entry 11 (the schedule before the impact
windows), and so is that of the strikers when the step closes several impact windows: 0 to 23. A pending
align, which does not move, is compared with the new now by signed difference, so one that a backward step
leaves more than 2^31 grains ahead takes effect at the step (log entry 33). -/
def State.stepClock (k : Int) (s : State) : State :=
  if k = 0 then s.onScu (Scu.stepped k)
  else
    let s1 := (s.moveTimes k).onScu (Scu.stepped k)
    let s2 := allStrikers.foldl (fun s n => s.takeWindowEnd n) (s1.scheduleStep k)
    s2.takeAlign.takeSwapTime

/-! ### Time marks (R102 to R107) -/

/-- The correct show time for a MARK's receipt reference instant (R102). -/
def State.markTarget (t : ShowTime) (pathDelay : Nat) (s : State) : ShowTime :=
  if s.node.compensation then plusGrains t ((pathDelay + 8) / 16) else t

/-- The early-mark test (R105). -/
def State.markIsEarly (s : State) : Bool :=
  s.scu.lastMark.any fun t => decide (s.localTime - t < fine (s.node.markPeriod / 2))

/-- Confidence up by 1, to at most 8. -/
def moreConfident (c : Nat) : Nat := min 8 (c + 1)

/-- A MARK of error e in UNLOCKED (R103). -/
def State.markUnlocked (e : Int) (s : State) : State :=
  ((s.stepClock e).onScu fun c => { c with confidence := 0, slew := 0 }).enterSync .acquiring

/-- A MARK of error e and quality q in ACQUIRING (R104). -/
def State.markAcquiring (e : Int) (q : Quality) (s : State) : State :=
  let s' :=
    if e.natAbs ≤ 2 then s.onScu fun c => { c with confidence := moreConfident c.confidence }
    else (s.stepClock e).onScu fun c => { c with confidence := 0 }
  if s'.scu.confidence = 8 ∧ (s.node.compensation = false ∨ q ≠ .none) then s'.enterSync .locked else s'

/-- A MARK of error e in LOCKED, early or not (R105; log entry 12). -/
def State.markLocked (e : Int) (early : Bool) (s : State) : State :=
  if 64 < e.natAbs ∨ early then
    let s' := (s.onScu fun c => { c with confidence := c.confidence - 2 }).report .clockWindow
    if s.scu.confidence - 2 = 0 then (s'.onScu fun c => { c with slew := 0 }).enterSync .acquiring else s'
  else
    s.onScu fun c =>
      if e.natAbs ≤ 2 then { c with confidence := moreConfident c.confidence, slew := 0 }
      else { c with confidence := moreConfident c.confidence, slew := e, slewCount := 0 }

/-- A MARK of error e in HOLDOVER (R107; log entry 13). -/
def State.markHoldover (e : Int) (s : State) : State :=
  if e.natAbs ≤ 64 then
    (s.onScu fun c =>
      { c with
        confidence := moreConfident c.confidence
        slew := e, slewCount := 0, holdoverStart := none }).enterSync .locked
  else
    (((s.onScu fun c => { c with holdoverStart := none }).enterSync .acquiring).stepClock e).onScu
      fun c => { c with confidence := 0, slew := 0 }

/-- A MARK at the show clock (R102). -/
def State.disciplineClock (t : ShowTime) (pathDelay : Nat) (q : Quality) (s : State) : State :=
  let e := signedDiff (s.markTarget t pathDelay) s.now
  let s' :=
    s.onScu fun c =>
      { c with lastPathDelay := pathDelay, qualityIn := q, lastMark := some s.localTime }
  match s.scu.sync with
  | .unlocked => s'.markUnlocked e
  | .acquiring => s'.markAcquiring e q
  | .locked => s'.markLocked e s.markIsEarly
  | .holdover => s'.markHoldover e

/-- The chain position is taken from a MARK's hop count (R124). -/
def State.takePosition (hop : Byte) (s : State) : State :=
  if hop.toNat ≤ 253 then
    let s' := s.onLiu fun l => { l with position := hop + 1, chainTooLong := false }
    if s.liu.chainTooLong then s'.reportEnd .chainTooLong else s'
  else
    let s' := s.onLiu fun l => { l with position := 255, chainTooLong := true }
    if s.liu.chainTooLong then s' else s'.report .chainTooLong

/-- A probe falls due with this MARK: the count passes from 63 to 0, and neither a probe outstanding nor
the chain end skips it (R111). -/
def State.probeFallsDue (s : State) : Bool :=
  s.pdu.markCount == 63 && s.pdu.outstanding.isNone && !s.node.chainEnd

/-- The PDU counts a MARK (R111). -/
def State.countMark (s : State) : State :=
  s.onPdu fun p =>
    { p with
      markCount := (p.markCount + 1) % 64
      probeDue := if s.probeFallsDue then .afterMark else p.probeDue }

/-- The hop count forwarded: the new position, or 254 when unplaced (R116, R124). -/
def State.forwardedHop (s : State) : Byte := if s.liu.position = 255 then 254 else s.liu.position

/-- A good MARK of correct length on the upstream port: position, clock, probe count, copy downstream (R102,
R111, R116, R124; log entry 10). -/
def State.takeMark (t : ShowTime) (hop : Byte) (pathDelay : BitVec 24) (quality : Byte) (s : State) : State :=
  let s1 := (s.countGood .upstream).takePosition hop
  let s2 := s1.disciplineClock t pathDelay.toNat (readQuality quality)
  s2.countMark.forwardMark
    { showTime := t, hop := s2.forwardedHop, pathDelay := pathDelay.toNat, quality := readQuality quality
      receivedAt := s2.localTime, opensProbe := s2.probeFallsDue }

/-! ### Supervision and holdover (R106, R107) -/

/-- The supervision deadline has come (R106). -/
def State.supervisionReached (s : State) : Bool :=
  s.scu.sync == .locked
    && s.scu.lastMark.any fun t => decide (t + fine (2 * s.node.markPeriod) ≤ s.localTime)

/-- SUPERVISION_DEADLINE, if it has fallen (R106). -/
def State.takeSupervision (s : State) : State :=
  if s.supervisionReached then
    (s.onScu fun c => { c with holdoverStart := some s.localTime }).enterSync .holdover
  else s

/-- The holdover limit has come (R107). -/
def State.holdoverReached (s : State) : Bool :=
  s.scu.sync == .holdover
    && s.scu.holdoverStart.any fun t => decide (t + fine s.node.holdoverLimit ≤ s.localTime)

/-- HOLDOVER_EXPIRY, if it has fallen: UNLOCKED, CLOCK_LOST, the schedule flushed, a pending swap in effect
(R51, R107). R107 lists the three without an order; this one is the model's choice (log entry 38): with the class
HALT the SAFE entry comes first, so a damper entry due at that instant counts as dropped, not as flushed. -/
def State.takeHoldoverExpiry (s : State) : State :=
  if s.holdoverReached then
    let s1 :=
      s.onScu fun c =>
        { c with sync := .unlocked, confidence := 0, slew := 0, holdoverStart := none }
    ((s1.report .clockLost).flushSchedule).enterSync .unlocked
  else s

end Sys2Proof.Machine
end

