-- ==== Sys2Proof/Machine/Supply.lean ====
section
/-! DEFINITION. The supply monitor and the driver fault inputs (08, R146 to R150). -/
namespace Sys2Proof.Machine

/-- The indicated band: the first line that applies for the present band (R147). -/
def indicatedBand (n : NodeRecord) (level : Nat) : Band → Band
  | .normal =>
    if level < n.cutThreshold then .cut else if level < n.lowThreshold then .low else .normal
  | .low =>
    if level < n.cutThreshold then .cut
    else if n.lowThreshold + n.hysteresis ≤ level then .normal
    else .low
  | .cut =>
    if n.lowThreshold + n.hysteresis ≤ level then .normal
    else if n.cutThreshold + n.hysteresis ≤ level then .low
    else .cut

/-- The band indicated at present. -/
def State.indicated (s : State) : Band := indicatedBand s.node s.sup.level.toNat s.sup.band

/-- The candidate band follows the indicated band (R147). -/
def State.evaluateSupply (s : State) : State :=
  let b := s.indicated
  s.onSup fun p =>
    if b = p.band then { p with candidate := none }
    else
      match p.candidate with
      | some c => if c.band = b then p else { p with candidate := some ⟨b, s.localTime⟩ }
      | none => { p with candidate := some ⟨b, s.localTime⟩ }

/-- The cut effects: the actuators stop and a supply dip is counted (R148). -/
def State.enterCut (s : State) : State :=
  s.stopActuators.onSup fun p => { p with dips := satAdd 65535 p.dips 1 }

/-- The effects of a change of band, in the order of R148; the new band stands already. -/
def State.bandEffects (old new : Band) (s : State) : State :=
  match old, new with
  | .normal, .low => s.report .supplyLow
  | .normal, .cut => ((s.report .supplyLow).report .supplyCut).enterCut
  | .low, .cut => (s.report .supplyCut).enterCut
  | .low, .normal => s.reportEnd .supplyLow
  | .cut, .low => (s.reportEnd .supplyCut).clearAfterCut
  | .cut, .normal => ((s.reportEnd .supplyCut).reportEnd .supplyLow).clearAfterCut
  | .normal, .normal | .low, .low | .cut, .cut => s

/-- The candidate becomes the band; the level is then judged from the new band (R147, log entry 19). -/
def State.takeBand (b : Band) (s : State) : State :=
  ((s.onSup fun p => { p with band := b, candidate := none }).bandEffects s.sup.band b).evaluateSupply

/-- The candidate has been indicated for the filter time (R147). -/
def State.supplyFilterReached (s : State) : Bool :=
  match s.sup.candidate with
  | none => false
  | some c => decide (c.start + fine (100 * s.node.filterTime) ≤ s.localTime)

/-- SUPPLY_FILTER_EXPIRY, if it has fallen (R147, R148). -/
def State.takeSupplyFilter (s : State) : State :=
  match s.sup.candidate with
  | none => s
  | some c => if s.supplyFilterReached then s.takeBand c.band else s

/-- The supply level input takes a level; the SUP judges it unless a reset is in progress (R147, R159). -/
def State.setSupplyLevel (level : Byte) (s : State) : State :=
  let s' := s.onSup fun p => { p with level := level }
  if s.resetting.isSome then s' else s'.evaluateSupply

/-- A driver fault input takes a level; a change restarts its filter (R146). -/
def State.setDriverInput (g : Fin 3) (asserted : Bool) (s : State) : State :=
  if s.svu.driverInput[g] = asserted then s
  else
    s.onSvu fun v =>
      { v with
        driverInput := v.driverInput.set g asserted
        driverChanged := v.driverChanged.set g s.localTime }

/-- The input of group g has held, for 5 grains, a level that its condition does not have (R146). -/
def State.driverFilterReached (s : State) (g : Fin 3) : Bool :=
  s.svu.driverInput[g] != s.svu.driverFault[g]
    && decide (s.svu.driverChanged[g] + Config.driverFilter ≤ s.localTime)

/-- DRIVER_FAULT_FILTER_EXPIRY, if it has fallen: the condition starts or ends (R146). -/
def State.takeDriverFilter (g : Fin 3) (s : State) : State :=
  if s.driverFilterReached g then
    let s' := s.onSvu fun v => { v with driverFault := v.driverFault.set g v.driverInput[g] }
    if s.svu.driverInput[g] then s'.report (.driverFault g) else s'.reportEnd (.driverFault g)
  else s

/-- RESET_END, if it has fallen: reset values, local time from 0, the level judged from NORMAL (R150, R159). -/
def State.takeResetEnd (s : State) : State :=
  match s.resetting with
  | none => s
  | some r => if s.resetEndReached then (s.resetValues r.cause).evaluateSupply else s

end Sys2Proof.Machine
end

