-- ==== Sys2Proof/Machine/Tables.lean ====
section
/-! DEFINITION. Table loading, bank swaps, commit and the modes (01, 09, 10). -/
namespace Sys2Proof.Machine

/-! ### The load pointer -/

/-- Writability of a table in a mode (10, Writability and the load pointer). -/
def TableId.writable (t : TableId) : Mode → Bool
  | .idle | .config => true
  | .run | .safe => t.banked
  | .lockedOut => false

/-- The pointer set or closed. -/
def State.setPointer (p : Option LoadPointer) (s : State) : State :=
  s.onTbs fun t => { t with pointer := p }

/-- A discarded load frame is counted (R164, R165). -/
def State.countDiscard (s : State) : State :=
  s.onTbs fun t => { t with loadDiscards := t.loadDiscards + 1 }

/-- LOAD_OPEN at the TBS (R164). -/
def State.openPointer (table : Byte) (start : Nat) (s : State) : State :=
  let s' := s.setPointer none
  match readTable table with
  | none => s'.countDiscard
  | some t =>
    if t.writable s.mdc.mode = false ∨ t.count ≤ start then s'.report (.loadError t)
    else s'.setPointer (some { table := t, next := start, sequence := 0 })

/-! ### Writes (R166) -/

/-- A node record written: it is read from here on by every block (R99, R117, R147, R166). -/
def State.writeNode (r : NodeRecord) (s : State) : State :=
  let s1 := s.onTbs fun t => { t with node := r }
  let s2 := s1.onRot fun x => { x with position := x.position % r.stepsPerRev }
  let s3 := if r.chainEnd then s2.becomeChainEnd else s2
  s3.evaluateSupply.takeSupplyFilter

/-- Item i of a table written from its canonical bytes; banked tables of the load bank (R1, R81, R91, R166). -/
def State.writeItem (t : TableId) (i : Nat) (bs : List Byte) (s : State) : State :=
  match t with
  | .striker =>
    if h : i < 24 then
      let n : Fin 24 := ⟨i, h⟩
      let r := StrikerRecord.ofBytes bs
      (s.onTbs fun t => { t with strikers := t.strikers.set n r }).setChannel n ((s.channel n).rewritten r)
    else s
  | .damper =>
    if h : i < 4 then
      let d : Fin 4 := ⟨i, h⟩
      (s.onTbs fun t => { t with dampers := t.dampers.set d (DamperRecord.ofBytes bs) }).setDamper d {}
    else s
  | .node => s.writeNode (NodeRecord.ofBytes bs)
  | .supervision =>
    (s.onTbs fun t =>
      { t with supervision := t.supervision.setIfInBounds i (SupervisionItem.ofBytes bs) }).refreshLamp
  | .note =>
    s.onTbs fun t =>
      let b := t.loadTables
      t.setLoadTables { b with notes := b.notes.setIfInBounds i (NoteEntry.ofBytes bs) }
  | .curve =>
    s.onTbs fun t =>
      let b := t.loadTables
      t.setLoadTables { b with curves := b.curves.setIfInBounds i (curveOfBytes bs) }
  | .articulation =>
    s.onTbs fun t =>
      let b := t.loadTables
      t.setLoadTables
        { b with articulations := b.articulations.setIfInBounds i (ArticulationItem.ofBytes bs) }

/-- Whole items written in index order, k of them from index i (R165). -/
def State.writeItems (t : TableId) : Nat → Nat → List Byte → State → State
  | 0, _, _, s => s
  | k + 1, i, bs, s =>
    State.writeItems t k (i + 1) (bs.drop t.itemSize) (s.writeItem t i (bs.take t.itemSize))

/-- The first configuration write in IDLE: the mode becomes CONFIG and the timer starts; the load pointer
stays as it stands (R151, R152). -/
def State.enterConfig (s : State) : State :=
  s.onMdc fun c => { c with mode := .config, timer := some (s.localTime + Config.configTimer) }

/-- A write into the load bank cancels a pending swap (R12). -/
def Tbs.cancelSwap (t : Tbs) : Tbs :=
  if t.pendingSwap.isSome then
    { t with pendingSwap := none, swapCancellations := t.swapCancellations + 1 }
  else t

/-- What a LOAD_DATA that wrote at least one item does beside the write (R12, R152). -/
def State.afterWrite (t : TableId) (s : State) : State :=
  if t.banked then s.onTbs Tbs.cancelSwap
  else if s.mdc.mode = .idle then s.enterConfig
  else s

/-- The bytes are 1 to 16 whole items of the table (R165). -/
def TableId.wholeItems (t : TableId) (bs : List Byte) : Bool :=
  bs.length % t.itemSize == 0 && decide (1 ≤ bs.length / t.itemSize)
    && decide (bs.length / t.itemSize ≤ 16)

/-- A load error: the pointer closes and LOAD_ERROR is reported for the table (R165). -/
def State.loadError (t : TableId) (s : State) : State := (s.setPointer none).report (.loadError t)

/-- LOAD_DATA at the TBS: the first line that applies (R165). -/
def State.loadItems (sequence : Byte) (bs : List Byte) (s : State) : State :=
  match s.tbs.pointer with
  | none => s.countDiscard
  | some p =>
    if sequence ≠ p.sequence ∨ p.table.wholeItems bs = false then s.loadError p.table
    else
      let k := bs.length / p.table.itemSize
      let fits := min k (p.table.count - p.next)
      let s1 := s.writeItems p.table fits p.next bs
      let s2 := if 0 < fits then s1.afterWrite p.table else s1
      if p.table.count < p.next + k then s2.loadError p.table
      else if p.next + k = p.table.count then s2.setPointer none
      else s2.setPointer (some { table := p.table, next := p.next + k, sequence := p.sequence + 1 })

/-! ### BANKSWAP (R9) -/

/-- BANKSWAP at the TBS (R9). -/
def State.bankSwap (t : ShowTime) (digest : Half) (s : State) : State :=
  if s.mdc.mode = .lockedOut then s
  else if s.tbs.loadTables.digest ≠ digest then s.report .bankMismatch
  else if reached t s.now ∨ s.scu.sync.notLocked then s.onTbs Tbs.swap
  else s.onTbs fun b => { b with pendingSwap := some t }

/-! ### Modes (09) -/

/-- COMMIT at the MDC (R153; log entry 20). -/
def State.commitTables (digest : Half) (s : State) : State :=
  if s.mdc.mode = .idle ∨ s.mdc.mode = .config then
    if s.tbs.configDigest = digest then
      ((s.onMdc fun c => { c with timer := none }).setMode .run).emptyFaults
    else s.report .commitMismatch
  else s

/-- HALT at the MDC (R155). -/
def State.haltMode (s : State) : State := s.requestSafe

/-- The fault list holds a record of HALT class (R156). -/
def State.haltRecord (s : State) : Bool :=
  s.svu.faults.any fun r => s.effectiveClass r.pair.kind == .halt

/-- RESUME at the MDC (R156). -/
def State.resumeMode (s : State) : State :=
  if s.mdc.mode = .safe then
    if s.haltRecord then s.onMdc fun c => { c with resumeRefused := c.resumeRefused + 1 }
    else s.setMode .run
  else s

/-- The configuration timer has expired in CONFIG (R154). -/
def State.configReached (s : State) : Bool :=
  s.mdc.mode == .config && s.mdc.timer.any fun t => decide (t ≤ s.localTime)

/-- Entry into LOCKED_OUT (R154). -/
def State.enterLockedOut (s : State) : State :=
  ((s.forceDampers.onRot Rot.stop).onTbs fun t => { t with pendingSwap := none }).setMode .lockedOut

/-- CONFIG_TIMEOUT, if it has fallen (R154). -/
def State.takeConfigTimeout (s : State) : State :=
  if s.configReached then
    ((s.onMdc fun c => { c with timer := none }).report .configTimeout).enterLockedOut
  else s

end Sys2Proof.Machine
end

