-- ==== Sys2Proof/Machine/Time.lean ====
section
/-! DEFINITION. The passage of time: which events have fallen, the slew grain, one fine unit of the oscillator
(06, R101; log entries 1, 3, 5, 25). -/
namespace Sys2Proof.Machine

/-! ### Events of the show clock -/

/-- The events that are fixed at a show time (R101). -/
inductive ShowEvent where
  | due
  | driveEnd (striker : Fin 24)
  | recoveryEnd (striker : Fin 24)
  | busyUntilLapse (striker : Fin 24)
  | impactWindowEnd (striker : Fin 24)
  | travelEnd (damper : Fin 4)
  | chokeHoldExpiry (damper : Fin 4)
  | risingEdge
  | fallingEdge
  | align
  | swap
deriving DecidableEq, Repr

/-- The command of an event. -/
def ShowEvent.command : ShowEvent → Instr
  | .due => .due
  | .driveEnd n => .driveEnd n
  | .recoveryEnd n => .recoveryEnd n
  | .busyUntilLapse n => .busyUntilLapse n
  | .impactWindowEnd n => .impactWindowEnd n
  | .travelEnd d => .travelEnd d
  | .chokeHoldExpiry d => .chokeHoldExpiry d
  | .risingEdge => .stepRisingEdge
  | .fallingEdge => .stepFallingEdge
  | .align => .alignTakesEffect
  | .swap => .swapTimeReached

/-- The event has fallen. -/
def State.fallen (s : State) : ShowEvent → Bool
  | .due => s.headReached
  | .driveEnd n => s.driveEndReached n
  | .recoveryEnd n => s.recoveryEndReached n
  | .busyUntilLapse n => s.busyReached n
  | .impactWindowEnd n => s.windowPassed n
  | .travelEnd d => s.travelEndReached d
  | .chokeHoldExpiry d => s.holdExpiryReached d
  | .risingEdge => s.risingReached
  | .fallingEdge => s.fallingReached
  | .align => s.alignReached
  | .swap => s.swapReached

/-- The event is taken. -/
def State.take (s : State) : ShowEvent → State
  | .due => s.takeDue
  | .driveEnd n => s.takeDriveEnd n
  | .recoveryEnd n => s.takeRecoveryEnd n
  | .busyUntilLapse n => s.takeBusyLapse n
  | .impactWindowEnd n => s.takeWindowEnd n
  | .travelEnd d => s.takeTravelEnd d
  | .chokeHoldExpiry d => s.takeHoldExpiry d
  | .risingEdge => s.takeRisingEdge
  | .fallingEdge => s.takeFallingEdge
  | .align => s.takeAlign
  | .swap => s.takeSwapTime

/-- Every event of the show clock. -/
def showEvents : List ShowEvent :=
  [.due, .risingEdge, .fallingEdge, .align, .swap]
    ++ allStrikers.map .driveEnd ++ allStrikers.map .recoveryEnd ++ allStrikers.map .busyUntilLapse
    ++ allStrikers.map .impactWindowEnd ++ allDampers.map .travelEnd ++ allDampers.map .chokeHoldExpiry

/-- The events of the show clock that have fallen. -/
def State.fallenShow (s : State) : List ShowEvent := showEvents.filter s.fallen

/-! ### Events of the oscillator -/

/-- The events of local time that have fallen, as commands. -/
def State.fallenLocal (s : State) : List Instr :=
  [(s.coolingReached, Instr.coolingTick), (s.rampReached, .rampTick),
   (s.supervisionReached, .supervisionDeadline), (s.holdoverReached, .holdoverExpiry),
   (s.configReached, .configTimeout), (s.probeSendable, .probeSend),
   (s.probeWindowReached, .probeWindowExpiry), (s.probeTimeoutReached, .probeTimeout),
   (s.driverFilterReached 0, .driverFaultFilterExpiry 0),
   (s.driverFilterReached 1, .driverFaultFilterExpiry 1),
   (s.driverFilterReached 2, .driverFaultFilterExpiry 2),
   (s.supplyFilterReached, .supplyFilterExpiry), (s.blinkReached, .lampBlinkPhase)].filterMap
    fun e => if e.1 then some e.2 else none

/-- A reset with a fixed end has reached it (R159). A power-on reset has none: its end is commanded. -/
def State.resetTailReached (s : State) : Bool :=
  match s.resetting with
  | some { cause := _, endsAt := some t } => decide (t ≤ s.localTime)
  | _ => false

/-- The events that have fallen at the present instant, as commands. While a reset lasts there is none but
its own end (R159). -/
def State.fallenEvents (s : State) : List Instr :=
  if s.resetting.isSome then (if s.resetTailReached then [.resetEnd] else [])
  else s.fallenShow.map ShowEvent.command ++ s.fallenLocal

/-! ### The free choice (log entry 5) -/

/-- One of several things that may be taken first; which one is free. -/
def State.pick {α : Type} (l : List α) (s : State) : Option α := l[Config.choice s.choices % l.length]?

/-- One more choice is made. -/
def State.chosen (s : State) : State := { s with choices := s.choices + 1 }

/-! ### The grains -/

/-- The next fine unit ends a grain of local time. -/
def State.grainNext (s : State) : Bool := (s.localTime + 1) % Config.finePerGrain == 0

/-- The next fine unit ends a slew grain: the 16th that the slew count counts (R101). The grain of local time that
is running when a MARK sets the correction counts as the first (log entry 35, the model's choice). -/
def State.slewNext (s : State) : Bool :=
  s.grainNext && s.scu.slew != 0 && (s.scu.slewCount + 1) % 16 == 0

/-- The show clock and the slew count after a grain of local time that is no slew grain (R101). A grain counts at
its end, however much of it lay before the correction was set (log entry 35, the model's choice). -/
def Scu.grain (c : Scu) : Scu :=
  { c with now := c.now + 1, slewCount := if c.slew = 0 then c.slewCount else c.slewCount + 1 }

/-- One fine unit of the oscillator passes; at the end of a grain the show clock advances (R101). While a
reset lasts only the oscillator runs. -/
def State.passFineUnit (s : State) : State :=
  let s' := { s with localTime := s.localTime + 1 }
  if s.grainNext && s.resetting.isNone then s'.onScu Scu.grain else s'

/-- Every drive end that has fallen is taken. -/
def State.endDrives (s : State) : State := allStrikers.foldl (fun s n => s.takeDriveEnd n) s

/-- The events fixed at the grain that an advance of 2 skips are taken there, in a free order (R101). The
first argument bounds them; every due and drive end of that grain is taken in any case (log entry 25). -/
def State.settle : Nat → State → State
  | 0, s => s.takeDue.endDrives
  | n + 1, s =>
    match s.pick s.fallenShow with
    | none => s
    | some e => (s.chosen.take e).settle n

/-- How many events of one grain are taken at most (log entry 25). -/
def settleBound : Nat := 512

/-- The correction after one more slew grain. -/
def Scu.slewStep (c : Scu) : Scu :=
  { c with slew := if 0 < c.slew then c.slew - 1 else c.slew + 1, slewCount := c.slewCount + 1 }

/-- SLEW_GRAIN, if it has come: the grain passes with an advance of 2, through the grain skipped, or of 0
(R101). It waits until nothing fallen is left to take. With an advance of 2 the events of the show clock that
fall at the grain skipped are taken here, and so before the events of the oscillator that fall at the same
fine unit (a cooling tick, a ramp tick, the holdover expiry, ...), which R52 and R73 let either side be first
of; that they go first is the model's choice (log entry 31). -/
def State.takeSlewGrain (s : State) : State :=
  if s.slewNext && s.fallenEvents.isEmpty then
    let s1 := ({ s with localTime := s.localTime + 1 }).onScu Scu.slewStep
    if 0 < s.scu.slew then
      ((s1.onScu fun c => { c with now := c.now + 1 }).settle settleBound).onScu
        fun c => { c with now := c.now + 1 }
    else s1
  else s

/-- What an idle block does of itself: one of the events that have fallen, a slew grain, or nothing but let
time pass (log entry 1). -/
def State.ownCommand (s : State) : Option Instr :=
  if s.fallenEvents.isEmpty then (if s.slewNext && s.resetting.isNone then some .slewGrain else none)
  else s.pick s.fallenEvents

end Sys2Proof.Machine
end

