-- ==== Sys2Proof/Machine/Events.lean ====
section
/-! DEFINITION. The commands that are events of the show clock, of the oscillator, of an input or of the reset
(03 to 06, 08, 09). An event that has not fallen changes nothing (log entry 2). -/
namespace Sys2Proof.Machine

/-! ### Of the show clock -/

/-- SLEW_GRAIN (R101). -/
def execSlewGrain (s : State) : Result := running State.takeSlewGrain s

/-- DUE (R43). -/
def execDue (s : State) : Result := running State.takeDue s

/-- DRIVE_END (R64). -/
def execDriveEnd (n : Fin 24) (s : State) : Result := running (State.takeDriveEnd n) s

/-- RECOVERY_END (R65). -/
def execRecoveryEnd (n : Fin 24) (s : State) : Result := running (State.takeRecoveryEnd n) s

/-- BUSY_UNTIL_LAPSE (R63). -/
def execBusyUntilLapse (n : Fin 24) (s : State) : Result := running (State.takeBusyLapse n) s

/-- IMPACT_WINDOW_END (R76). -/
def execImpactWindowEnd (n : Fin 24) (s : State) : Result := running (State.takeWindowEnd n) s

/-- TRAVEL_END (R86). -/
def execTravelEnd (d : Fin 4) (s : State) : Result := running (State.takeTravelEnd d) s

/-- CHOKE_HOLD_EXPIRY (R87). -/
def execChokeHoldExpiry (d : Fin 4) (s : State) : Result := running (State.takeHoldExpiry d) s

/-- STEP_RISING_EDGE (R94). -/
def execStepRisingEdge (s : State) : Result := running State.takeRisingEdge s

/-- STEP_FALLING_EDGE (R94). -/
def execStepFallingEdge (s : State) : Result := running State.takeFallingEdge s

/-- ALIGN_TAKES_EFFECT (R96). -/
def execAlignTakesEffect (s : State) : Result := running State.takeAlign s

/-- SWAP_TIME_REACHED (R10). -/
def execSwapTimeReached (s : State) : Result := running State.takeSwapTime s

/-! ### Of the oscillator -/

/-- COOLING_TICK (R72). -/
def execCoolingTick (s : State) : Result := running State.takeCoolingTick s

/-- RAMP_TICK (R93). -/
def execRampTick (s : State) : Result := running State.takeRampTick s

/-- SUPERVISION_DEADLINE (R106). -/
def execSupervisionDeadline (s : State) : Result := running State.takeSupervision s

/-- HOLDOVER_EXPIRY (R107). -/
def execHoldoverExpiry (s : State) : Result := running State.takeHoldoverExpiry s

/-- CONFIG_TIMEOUT (R154). -/
def execConfigTimeout (s : State) : Result := running State.takeConfigTimeout s

/-- DRIVER_FAULT_FILTER_EXPIRY (R146). -/
def execDriverFaultFilterExpiry (g : Fin 3) (s : State) : Result := running (State.takeDriverFilter g) s

/-- SUPPLY_FILTER_EXPIRY (R148). -/
def execSupplyFilterExpiry (s : State) : Result := running State.takeSupplyFilter s

/-- LAMP_BLINK_PHASE (R144). -/
def execLampBlinkPhase (s : State) : Result := running State.takeBlink s

/-! ### Of the inputs -/

/-- IMPACT_PULSE (R75). -/
def execImpactPulse (n : Fin 24) (s : State) : Result := running (State.takeImpact n) s

/-- INDEX_PULSE (R95). -/
def execIndexPulse (s : State) : Result := running State.takeIndexPulse s

/-- DRIVER_FAULT_INPUT_CHANGE (R146). The pin keeps its level through a reset (log entry 8). -/
def execDriverFaultInputChange (g : Fin 3) (asserted : Bool) (s : State) : Result :=
  .next (s.setDriverInput g asserted)

/-- SUPPLY_LEVEL_CHANGE (R147). The pin keeps its level through a reset (log entry 8). -/
def execSupplyLevelChange (level : Byte) (s : State) : Result := .next (s.setSupplyLevel level)

/-! ### Of the reset (R159) -/

/-- POWER_ON. -/
def execPowerOn (s : State) : Result := .next s.beginPowerOn

/-- RESET_LINE. -/
def execResetLine (s : State) : Result := .next s.assertLine

/-- RESET_END. -/
def execResetEnd (s : State) : Result := .next s.takeResetEnd

/-- RESET_LINE_RELEASE. -/
def execResetLineRelease (s : State) : Result := .next s.releaseLine

end Sys2Proof.Machine
end

