-- ==== Sys2Proof/Machine/LinkCommands.lean ====
section
/-! DEFINITION. The commands of the link: probes, bad and unread frames, relayed frames, frame boundaries (06,
07). -/
namespace Sys2Proof.Machine

/-- A PROBE on the upstream port (R129). The hold it carries is not read: it is written at the return. -/
def execProbe (originator number : Byte) (_hold : Half) (s : State) : Result :=
  running (State.takeProbe originator number) s

/-- A bad frame on a port (R120). -/
def execBadFrame (port : Port) (s : State) : Result := running (State.countBad port) s

/-- An upstream frame of unknown kind or of a return-lane kind (R122). -/
def execUnknownKindFrame (kind : Byte) (payload : List Byte) (s : State) : Result :=
  running (State.takeUnknownKind kind payload) s

/-- An upstream frame of known kind and wrong length (R122). -/
def execMalformedFrame (kind : Byte) (payload : List Byte) (s : State) : Result :=
  running (State.takeMalformed kind payload) s

/-- A returned PROBE on the downstream port (R113). Its originator is not read (R113 compares the number). -/
def execReturnedProbe (_originator number : Byte) (hold : Half) (s : State) : Result :=
  running (State.takeReturnedProbe number hold) s

/-- Any other good frame on the downstream port (R130). -/
def execRelayFrame (kind : Byte) (payload : List Byte) (s : State) : Result :=
  running (State.takeRelayFrame kind payload) s

/-- The downstream transmitter is at a frame boundary (R126). -/
def execDownstreamFrameBoundary (s : State) : Result := running State.takeDownBoundary s

/-- PROBE_SEND (R111). -/
def execProbeSend (s : State) : Result := running State.takeProbeSend s

/-- PROBE_WINDOW_EXPIRY (R111). -/
def execProbeWindowExpiry (s : State) : Result := running State.takeProbeWindow s

/-- PROBE_TIMEOUT (R115). -/
def execProbeTimeout (s : State) : Result := running State.takeProbeTimeout s

/-- The upstream transmitter is at a frame boundary (R128). -/
def execUpstreamFrameBoundary (s : State) : Result := running State.takeUpBoundary s

end Sys2Proof.Machine
end

