-- ==== Sys2Proof/Machine/Management.lean ====
section
/-! DEFINITION. The management frames but the queries: BANKSWAP, LOAD_OPEN, LOAD_DATA, COMMIT, CLEAR, HALT,
RESUME, RESTART (01, 08, 09, 10). -/
namespace Sys2Proof.Machine

/-- BANKSWAP (R9). -/
def execBankswap (position : Byte) (swapTime : ShowTime) (digest : Half) (s : State) : Result :=
  running (State.management position (bankswapFrame position swapTime digest) (State.bankSwap swapTime digest)) s

/-- LOAD_OPEN (R164). -/
def execLoadOpen (position table : Byte) (start : Half) (s : State) : Result :=
  running (State.management position (loadOpenFrame position table start) (State.openPointer table start.toNat)) s

/-- LOAD_DATA (R165). -/
def execLoadData (position sequence : Byte) (items : List Byte) (s : State) : Result :=
  running (State.management position (loadDataFrame position sequence items) (State.loadItems sequence items)) s

/-- COMMIT (R153). -/
def execCommit (position : Byte) (digest : Half) (s : State) : Result :=
  running (State.management position (commitFrame position digest) (State.commitTables digest)) s

/-- HALT (R155). -/
def execHalt (position : Byte) (s : State) : Result :=
  running (State.management position (haltFrame position) State.haltMode) s

/-- RESUME (R156). -/
def execResume (position : Byte) (s : State) : Result :=
  running (State.management position (resumeFrame position) State.resumeMode) s

/-- RESTART (R160). -/
def execRestart (position : Byte) (s : State) : Result := running (State.takeRestart position) s

/-! ### CLEAR (R171, R172) -/

/-- CLEAR record at the SVU: a code that names no kind or no subject of it changes nothing (R171, R176). -/
def State.clearNamed (kind subject : Byte) (s : State) : State :=
  match readPair kind subject with
  | none => s
  | some p => s.clearPair p

/-- CLEAR record (R141). -/
def execClearRecord (position kind subject : Byte) (s : State) : Result :=
  running (State.management position (clearFrame position 0x00 [kind, subject]) (State.clearNamed kind subject)) s

/-- CLEAR all faults (R141). -/
def execClearAllFaults (position : Byte) (s : State) : Result :=
  running (State.management position (clearFrame position 0x01 []) State.clearAll) s

/-- The first-fault record emptied (R142). -/
def State.emptyFirst (s : State) : State := s.onSvu fun v => { v with first := none }

/-- CLEAR first-fault (R142). -/
def execClearFirstFault (position : Byte) (s : State) : Result :=
  running (State.management position (clearFrame position 0x02 []) State.emptyFirst) s

/-- CLEAR statistics, in every block that keeps some (R172). -/
def State.clearStatistics (s : State) : State :=
  let s1 := (s.onSch Sch.clearStatistics).onAcu fun a => { a with refusals := {}, margins := {} }
  let s2 := s1.onStc fun t => { t with stray := 0 }
  let s3 := s2.onRot fun r => { r with lastIndexError := 0, indexErrors := 0 }
  let s4 := s3.onCounters fun _ => {}
  (s4.onMdc fun c => { c with resumeRefused := 0 }).onTbs fun t =>
    { t with swapCancellations := 0, loadDiscards := 0 }

/-- CLEAR statistics (R172). -/
def execClearStatistics (position : Byte) (s : State) : Result :=
  running (State.management position (clearFrame position 0x03 []) State.clearStatistics) s

end Sys2Proof.Machine
end

