-- ==== Sys2Proof/Machine/Acceptance.lean ====
section
/-! DEFINITION. Acceptance of strike and damper requests (02; 01, R2 to R8). -/
namespace Sys2Proof.Machine

/-! ### Refusals and statistics -/

/-- One more refusal of a reason (R36). -/
def RefusalCounters.add : RefuseReason → RefusalCounters → RefusalCounters
  | .notPlaying, c => { c with notPlaying := c.notPlaying + 1 }
  | .noClock, c => { c with noClock := c.noClock + 1 }
  | .unmapped, c => { c with unmapped := c.unmapped + 1 }
  | .silent, c => { c with silent := c.silent + 1 }
  | .outOfService, c => { c with outOfService := c.outOfService + 1 }
  | .tooEarly, c => { c with tooEarly := c.tooEarly + 1 }
  | .late, c => { c with late := c.late + 1 }
  | .busy, c => { c with busy := c.busy + 1 }
  | .full, c => { c with full := c.full + 1 }

/-- A request is refused: one counter, and SCHEDULE_FULL for FULL (R17, R30, R36). -/
def State.refuse (r : RefuseReason) (s : State) : State :=
  let s' := s.onAcu fun a => { a with refusals := a.refusals.add r }
  if r = .full then s'.report .scheduleFull else s'

/-- The lead-margin statistics take a margin (R32). -/
def LeadMargins.take (m : Int) (l : LeadMargins) : LeadMargins where
  minimum := some ((l.minimum.map (min m)).getD m)
  maximum := some ((l.maximum.map (max m)).getD m)
  last := some m

/-! ### Timing checks (R25, R26, R35) -/

/-- The action time kept for an action at D, whose margin is D - now: TOO_EARLY beyond the horizon, LATE
beyond the tolerance, otherwise D, or now + M_s for a late one (R25, R26). -/
def State.checkTiming (d : ShowTime) (s : State) : Except RefuseReason ShowTime :=
  let margin := signedDiff d s.now
  let setup : Int := s.node.setupMargin
  if (Config.horizon : Int) < margin then .error .tooEarly
  else if setup ≤ margin then .ok d
  else if setup - margin ≤ s.node.lateTolerance then .ok (plusGrains s.now s.node.setupMargin)
  else .error .late

/-! ### Resolving a PLAY (R8, R20) -/

/-- The note entry a note code reads in the play bank; 128-255 reads none (R19). -/
def Bank.note (b : Bank) (note : Byte) : Option NoteEntry :=
  if h : note.toNat < 128 then some b.notes[note.toNat] else none

/-- The resolved force (R8). -/
def resolveForce (b : Bank) (n : NoteEntry) (force articulation : Byte) : Nat :=
  let f1 := clampInt 1 63 (readForce force + n.offset)
  match readArticulation articulation with
  | none => f1.toNat
  | some a => (clampInt 1 63 (f1 + b.articulations[a].offset)).toNat

/-- The resolved curve (R8). -/
def resolveCurve (b : Bank) (n : NoteEntry) (articulation : Byte) : Fin 8 :=
  match readArticulation articulation with
  | none => n.curve
  | some a => b.articulations[a].curve.getD n.curve

/-- The curve item read (R6). -/
def Bank.curveWidth (b : Bank) (curve : Fin 8) (force : Nat) : Nat := b.curves.getD (curve.val * 64 + force) 0

/-- The provisional width (R20). -/
def provisionalWidth (curveWidth : Nat) (gain : Byte) : Nat := curveWidth * (gain.toNat + 1) / 256

/-! ### Trying a striker (R23 to R28) -/

/-- A candidate's flight at a force (R24). -/
def flightTime (r : StrikerRecord) (trim : Int) (force : Nat) : Nat :=
  ((r.fHard : Int) + ((r.fSoftEff - r.fHard) * (63 - force) + 31) / 62 + trim).toNat

/-- Two windows of length len that begin at a and c overlap (R27). -/
def windowsOverlap (len : Nat) (a c : ShowTime) : Bool :=
  len != 0 && before a (plusGrains c len) && before c (plusGrains a len)

/-- The candidate's reserved window at D, or its busy-until, conflicts (R27). -/
def State.conflicts (n : Fin 24) (d : ShowTime) (s : State) : Bool :=
  let r := s.strikerRecord n
  s.sch.entries.any (fun e =>
      match e.work with
      | .strike m _ _ => m == n && windowsOverlap (r.wMax + r.recovery) d e.action
      | .damper .. => false)
    || (s.channel n).busyUntil.any fun t => before d t

/-- A chosen candidate: its drive start after any late adjustment, the margin before it, its flight. -/
structure Candidacy where
  striker : Fin 24
  start : ShowTime
  margin : Int
  flight : Nat

/-- Steps 6a to 6f for one candidate (R23 to R27). -/
def State.tryStriker (n : Fin 24) (force : Nat) (target : ShowTime) (s : State) :
    Except RefuseReason Candidacy :=
  if (s.channelState n).outOfService then .error .outOfService
  else
    let flight := flightTime (s.strikerRecord n) (s.channel n).trim force
    let d := target - BitVec.ofNat 32 flight
    match s.checkTiming d with
    | .error r => .error r
    | .ok start =>
      if s.conflicts n start then .error .busy
      else .ok { striker := n, start := start, margin := signedDiff d s.now, flight := flight }

/-- The primary, then the alternate if there is one; the last one tried gives the reason (R28). -/
def State.chooseStriker (e : NoteEntry) (force : Nat) (target : ShowTime) (s : State) :
    Except RefuseReason Candidacy :=
  match s.tryStriker e.primary force target with
  | .ok c => .ok c
  | .error r =>
    match e.alternate with
    | none => .error r
    | some n => s.tryStriker n force target

/-! ### Entries (R29, R31) -/

/-- The strike entry of an accepted PLAY (R31). -/
def strikeEntry (c : Candidacy) (target : ShowTime) (w1 : Nat) : Entry :=
  { action := c.start, target := target
    work := .strike c.striker w1 (plusGrains c.start c.flight) }

/-- A choke's action time, clamped to the span from the drive start to the horizon (R29). -/
def State.chokeAction (start a : ShowTime) (s : State) : ShowTime :=
  if before a start then start
  else if (Config.horizon : Int) < signedDiff a s.now then plusGrains s.now Config.horizon
  else a

/-- The choke entry, when the PLAY carries a duration and the note's choke damper is enabled (R4, R29). -/
def State.chokeEntry (e : NoteEntry) (start target : ShowTime) (choke : Option Half) (s : State) :
    Option Entry :=
  match choke, e.choke with
  | some duration, some d =>
    let r := s.damperRecord d
    let goal := plusGrains target duration.toNat
    if r.enabled then
      some
        { action := s.chokeAction start (goal - BitVec.ofNat 32 r.engageTravel)
          target := goal, work := .damper d .engage true }
    else none
  | _, _ => none

/-- The first two checks: mode and clock (R18). -/
def State.requestOpen (s : State) : Except RefuseReason Unit :=
  if s.mdc.mode ≠ .run then .error .notPlaying
  else if s.scu.sync.notLocked then .error .noClock
  else .ok ()

/-- The decision on a matched PLAY: the chosen candidate and its entries, or the first check that fails
(R17 to R30). -/
def State.decidePlay (note force articulation : Byte) (target : ShowTime) (choke : Option Half) (s : State) :
    Except RefuseReason (Candidacy × List Entry) := do
  s.requestOpen
  let b := s.tbs.playTables
  match b.note note with
  | none => .error .unmapped
  | some e =>
    if e.enabled = false then .error .unmapped
    else
      let f := resolveForce b e force articulation
      let w1 := provisionalWidth (b.curveWidth (resolveCurve b e articulation) f) s.acu.gain
      if w1 = 0 then .error .silent
      else
        match s.chooseStriker e f target with
        | .error r => .error r
        | .ok c =>
          let es := strikeEntry c target w1 :: (s.chokeEntry e c.start target choke).toList
          if s.sch.free < es.length then .error .full else .ok (c, es)

/-- A matched PLAY: entries inserted, statistics updated, entries due at once handed over; or refused (R17,
R31, R32, R41). -/
def State.takePlay (note force articulation : Byte) (target : ShowTime) (choke : Option Half) (s : State) :
    State :=
  match s.decidePlay note force articulation target choke with
  | .error r => s.refuse r
  | .ok (c, es) =>
    ((s.onSch (Sch.insertAll es)).onAcu fun a => { a with margins := a.margins.take c.margin }).takeDue

/-! ### MUTE (R34, R35) -/

/-- The travel time of an action (R35). -/
def DamperRecord.travelTime (r : DamperRecord) : DamperAction → Nat
  | .release => r.releaseTravel
  | .engage => r.engageTravel

/-- The dampers a MUTE selects (R34). -/
def State.selectDampers (selector : Option (Fin 4)) (s : State) : List (Fin 4) :=
  match selector with
  | some d => if (s.damperRecord d).enabled then [d] else []
  | none => allDampers.filter fun d => (s.damperRecord d).enabled

/-- The entry of one selected damper, or its reason (R35). -/
def State.damperEntry (a : DamperAction) (target : ShowTime) (s : State) (d : Fin 4) :
    Except RefuseReason Entry :=
  match s.checkTiming (target - BitVec.ofNat 32 ((s.damperRecord d).travelTime a)) with
  | .error r => .error r
  | .ok start => .ok { action := start, target := target, work := .damper d a false }

/-- The entries of the selected dampers in order; the first one that fails gives the reason (R35). -/
def State.damperEntries (a : DamperAction) (target : ShowTime) (s : State) :
    List (Fin 4) → Except RefuseReason (List Entry)
  | [] => .ok []
  | d :: ds =>
    match s.damperEntry a target d with
    | .error r => .error r
    | .ok e =>
      match State.damperEntries a target s ds with
      | .error r => .error r
      | .ok es => .ok (e :: es)

/-- The decision on a matched MUTE (R34, R35). -/
def State.decideMute (selector : Option (Fin 4)) (a : DamperAction) (target : ShowTime) (s : State) :
    Except RefuseReason (List Entry) := do
  s.requestOpen
  match s.selectDampers selector with
  | [] => .error .outOfService
  | ds =>
    match s.damperEntries a target ds with
    | .error r => .error r
    | .ok es => if s.sch.free < es.length then .error .full else .ok es

/-- A matched MUTE: entries inserted and those due at once handed over; or refused (R34, R35, R41). -/
def State.takeMute (selector action : Byte) (target : ShowTime) (s : State) : State :=
  match s.decideMute (readSelector selector) (readAction action) target with
  | .error r => s.refuse r
  | .ok es => (s.onSch (Sch.insertAll es)).takeDue

end Sys2Proof.Machine
end

