-- ==== Sys2Proof/Machine/Performance.lean ====
section
/-! DEFINITION. The performance frames: MARK, PLAY, MUTE, SET, FLUSH (02, 03, 05, 06). -/
namespace Sys2Proof.Machine

/-- MARK (R102). -/
def execMark (showTime : ShowTime) (hop : Byte) (pathDelay : BitVec 24) (quality : Byte) (s : State) : Result :=
  running (State.takeMark showTime hop pathDelay quality) s

/-- PLAY (R17). -/
def execPlay (ensemble note force articulation : Byte) (target : ShowTime) (choke : Option Half)
    (s : State) : Result :=
  running
    (State.performance ensemble (playFrame ensemble note force articulation target choke)
      (State.takePlay note force articulation target choke)) s

/-- MUTE (R34). -/
def execMute (ensemble selector action : Byte) (target : ShowTime) (s : State) : Result :=
  running
    (State.performance ensemble (muteFrame ensemble selector action target)
      (State.takeMute selector action target)) s

/-- SET MASTER_GAIN at the ACU (R21). -/
def State.setGain (gain : Byte) (s : State) : State := s.onAcu fun a => { a with gain := gain }

/-- SET MASTER_GAIN (R21). -/
def execSetMasterGain (ensemble gain : Byte) (s : State) : Result :=
  running (State.performance ensemble (setFrame ensemble 0x00 [gain]) (State.setGain gain)) s

/-- SET QUIET_CEILING at the ACU: above 2047 as 2047 (R22). -/
def State.setCeiling (ceiling : Half) (s : State) : State :=
  s.onAcu fun a => { a with ceiling := min 2047 ceiling.toNat }

/-- SET QUIET_CEILING (R22). -/
def execSetQuietCeiling (ensemble : Byte) (ceiling : Half) (s : State) : Result :=
  running (State.performance ensemble (setFrame ensemble 0x01 (bytes2 ceiling)) (State.setCeiling ceiling)) s

/-- SET ROTOR_RATE (R92). -/
def execSetRotorRate (ensemble : Byte) (rate : Half) (s : State) : Result :=
  running (State.performance ensemble (setFrame ensemble 0x02 (bytes2 rate)) (State.setRate rate.toNat)) s

/-- SET ROTOR_ALIGN (R96). -/
def execSetRotorAlign (ensemble : Byte) (time : ShowTime) (s : State) : Result :=
  running (State.performance ensemble (setFrame ensemble 0x03 (bytes4 time)) (State.setAlign time)) s

/-- FLUSH all (R49). -/
def execFlushAll (ensemble : Byte) (s : State) : Result :=
  running (State.performance ensemble (flushFrame ensemble 0x00 []) State.flushSchedule) s

/-- FLUSH from time T at the schedule: every entry whose target time is not before T (R49). -/
def State.flushFrom (time : ShowTime) (s : State) : State :=
  s.onSch (Sch.flush fun e => !before e.target time)

/-- FLUSH from time T (R49). -/
def execFlushFromTime (ensemble : Byte) (time : ShowTime) (s : State) : Result :=
  running (State.performance ensemble (flushFrame ensemble 0x01 (bytes4 time)) (State.flushFrom time)) s

end Sys2Proof.Machine
end

