-- ==== Sys2Proof/Machine/Queries.lean ====
section
/-! DEFINITION. The ASK family: the content of every subject, and the eleven ASK commands (10, R168 to R170;
11, R178). -/
namespace Sys2Proof.Machine

/-! ### The contents (R169, R178) -/

/-- STATUS, 19 bytes. -/
def State.statusContent (s : State) : List Byte :=
  [s.mdc.mode.code, s.scu.sync.code, s.liu.position, s.tbs.playBank.code, flag s.tbs.pendingSwap.isSome]
    ++ bytes4 (s.tbs.pendingSwap.getD 0)
    ++ [s.sup.band.code, s.mdc.resetCause.code]
    ++ nat2 s.sch.entries.length
    ++ [byteOf s.svu.faults.length]
    ++ (match s.tbs.pointer with
        | none => [0, 0, 0, 0, 0]
        | some p => 1 :: p.table.code :: nat2 p.next ++ [p.sequence])

/-- FAULTS, 15 + 13n bytes: the records in list order. -/
def State.faultsContent (s : State) : List Byte :=
  byteOf s.svu.faults.length :: (s.svu.faults.flatMap FaultRecord.bytes)
    ++ (match s.svu.first with
        | none => emptyFaultRecord s.localTime
        | some r => r.bytes)
    ++ [byteOf s.svu.overflow]

/-- A lead-margin value; none is sent as 0x80000000. -/
def marginBytes (m : Option Int) : List Byte :=
  bytes4 ((m.map (BitVec.ofInt 32)).getD 0x80000000)

/-- The dropped-at-due counters in order. -/
def DropCounters.inOrder (c : DropCounters) : List Counter :=
  [c.late, c.busy, c.outOfService, c.hot, c.noSupply, c.quieted]

/-- The refusal counters in the order of R36. -/
def RefusalCounters.inOrder (c : RefusalCounters) : List Counter :=
  [c.notPlaying, c.noClock, c.unmapped, c.silent, c.outOfService, c.tooEarly, c.late, c.busy, c.full]

/-- The link frame counters in the order of R133. -/
def LinkCounters.inOrder (c : LinkCounters) : List Counter :=
  [c.upGood, c.upBad, c.downGood, c.downBad, c.unknownKind, c.malformed, c.forwardDiscards,
   c.relayDiscards, c.noticeDiscards, c.unansweredAsks]

/-- COUNTERS, 162 bytes. -/
def State.countersContent (s : State) : List Byte :=
  ([s.sch.accepted, s.sch.started] ++ s.sch.dropped.inOrder ++ [s.sch.flushed] ++ s.acu.refusals.inOrder
      ++ [s.sch.damperAccepted, s.sch.damperPerformed, s.sch.damperRedundant, s.sch.damperDropped,
          s.sch.damperFlushed]).flatMap bytes4
    ++ marginBytes s.acu.margins.minimum ++ marginBytes s.acu.margins.maximum
    ++ marginBytes s.acu.margins.last
    ++ [s.stc.stray, s.tbs.swapCancellations, s.tbs.loadDiscards, s.mdc.resumeRefused].flatMap bytes4
    ++ nat2 s.sup.dips
    ++ s.liu.counters.inOrder.flatMap bytes4

/-- The busy-until as ASK STRIKER sends it: now when it is lapsed or reached (R63, R178). -/
def State.sentBusyUntil (s : State) (n : Fin 24) : ShowTime :=
  (lapsing s.now (s.channel n).busyUntil).getD s.now

/-- STRIKER n, 12 bytes; n above 23 has no content but n itself (R168, R178). -/
def State.strikerContent (striker : Byte) (s : State) : List Byte :=
  striker ::
    (match readStriker striker with
     | none => []
     | some n =>
       let c := s.channel n
       (s.channelState n).code :: nat2 c.heat ++ int2 c.trim ++ bytes4 (s.sentBusyUntil n)
         ++ [byteOf c.missRun, byteOf c.outlierRun])

/-- DAMPERS, 8 bytes. -/
def State.dampersContent (s : State) : List Byte :=
  s.dmc.dampers.toList.flatMap fun d => [d.state.code, flag d.hold.isSome]

/-- ROTOR, 10 bytes. -/
def State.rotorContent (s : State) : List Byte :=
  nat2 s.rot.target ++ nat2 s.rot.current ++ nat2 s.rot.position ++ nat2 s.rot.lastIndexError
    ++ nat2 s.rot.indexErrors

/-- CLOCK, 10 bytes. -/
def State.clockContent (s : State) : List Byte :=
  bytes4 s.now ++ [byteOf s.scu.confidence, BitVec.ofInt 8 s.scu.slew] ++ nat3 s.scu.lastPathDelay
    ++ [s.scu.qualityIn.code]

/-- LINK, 8 bytes. -/
def State.linkContent (s : State) : List Byte :=
  [byteOf s.liu.leakUp, byteOf s.liu.leakDown, s.liu.position] ++ nat3 s.pdu.average
    ++ [byteOf s.pdu.samples, s.pdu.quality.code]

/-- DIGESTS, 6 bytes. -/
def State.digestsContent (s : State) : List Byte :=
  bytes2 s.tbs.configDigest ++ bytes2 s.tbs.bankA.digest ++ bytes2 s.tbs.bankB.digest

/-- The count of items an ASK TABLE asks for (R170). -/
def askedCount (t : TableId) (count : Nat) : Nat :=
  min (if t = .striker then 11 else 16) (max 1 count)

/-- The bank a selector names: 0x00 the play bank, any other value the load bank (R176). -/
def Tbs.askedBank (selector : Byte) (t : Tbs) : Bank :=
  if selector = 0 then t.playTables else t.loadTables

/-- The items an ASK TABLE returns (R170). -/
def State.askedItems (table bank : Byte) (start : Half) (count : Byte) (s : State) : List (List Byte) :=
  match readTable table with
  | none => []
  | some t => ((s.tbs.items (s.tbs.askedBank bank) t).drop start.toNat).take (askedCount t count.toNat)

/-- TABLE, 5 bytes and the items. -/
def State.tableContent (table bank : Byte) (start : Half) (count : Byte) (s : State) : List Byte :=
  let items := s.askedItems table bank start count
  table :: bank :: bytes2 start ++ byteOf items.length :: items.flatten

/-! ### The commands -/

/-- An ASK: answered at its arrival when addressed to the node (R168). -/
def State.takeAsk (position subject : Byte) (parameters : List Byte) (content : State → List Byte)
    (s : State) : State :=
  s.management position (askFrame position subject parameters) (State.answer subject content)

/-- ASK STATUS (R169). -/
def execAskStatus (position : Byte) (s : State) : Result :=
  running (State.takeAsk position 0x00 [] State.statusContent) s

/-- ASK FAULTS (R169). -/
def execAskFaults (position : Byte) (s : State) : Result :=
  running (State.takeAsk position 0x01 [] State.faultsContent) s

/-- ASK COUNTERS (R169). -/
def execAskCounters (position : Byte) (s : State) : Result :=
  running (State.takeAsk position 0x02 [] State.countersContent) s

/-- ASK STRIKER n (R82). -/
def execAskStriker (position striker : Byte) (s : State) : Result :=
  running (State.takeAsk position 0x03 [striker] (State.strikerContent striker)) s

/-- ASK DAMPERS (R91). -/
def execAskDampers (position : Byte) (s : State) : Result :=
  running (State.takeAsk position 0x04 [] State.dampersContent) s

/-- ASK ROTOR (R99). -/
def execAskRotor (position : Byte) (s : State) : Result :=
  running (State.takeAsk position 0x05 [] State.rotorContent) s

/-- ASK CLOCK (R110). -/
def execAskClock (position : Byte) (s : State) : Result :=
  running (State.takeAsk position 0x06 [] State.clockContent) s

/-- ASK LINK (R118). -/
def execAskLink (position : Byte) (s : State) : Result :=
  running (State.takeAsk position 0x07 [] State.linkContent) s

/-- ASK DIGESTS (R167). -/
def execAskDigests (position : Byte) (s : State) : Result :=
  running (State.takeAsk position 0x08 [] State.digestsContent) s

/-- ASK TABLE (R170). -/
def execAskTable (position table bank : Byte) (start : Half) (count : Byte) (s : State) : Result :=
  running
    (State.takeAsk position 0x09 (table :: bank :: bytes2 start ++ [count])
      (State.tableContent table bank start count)) s

/-- An ASK of unknown subject: answered with the header alone (R168, R178). -/
def execAskUnknownSubject (position subject : Byte) (s : State) : Result :=
  running (State.takeAsk position subject [] fun _ => []) s

end Sys2Proof.Machine
end

