-- ==== Sys2Proof/Machine/Dispatch.lean ====
section
/-! DEFINITION. The effect of a command: one arm per row of spec/opcode_table.json. -/
namespace Sys2Proof.Machine

def exec (i : Instr) (s : State) : Host.Outcome State Fault Refusal :=
  match i with
  | .mark showTime hop pathDelay quality => Sys2Proof.Machine.execMark showTime hop pathDelay quality s
  | .play ensemble note force articulation target choke => Sys2Proof.Machine.execPlay ensemble note force articulation target choke s
  | .mute ensemble selector action target => Sys2Proof.Machine.execMute ensemble selector action target s
  | .setMasterGain ensemble gain => Sys2Proof.Machine.execSetMasterGain ensemble gain s
  | .setQuietCeiling ensemble ceiling => Sys2Proof.Machine.execSetQuietCeiling ensemble ceiling s
  | .setRotorRate ensemble rate => Sys2Proof.Machine.execSetRotorRate ensemble rate s
  | .setRotorAlign ensemble time => Sys2Proof.Machine.execSetRotorAlign ensemble time s
  | .flushAll ensemble => Sys2Proof.Machine.execFlushAll ensemble s
  | .flushFromTime ensemble time => Sys2Proof.Machine.execFlushFromTime ensemble time s
  | .bankswap position swapTime digest => Sys2Proof.Machine.execBankswap position swapTime digest s
  | .loadOpen position table start => Sys2Proof.Machine.execLoadOpen position table start s
  | .loadData position sequence items => Sys2Proof.Machine.execLoadData position sequence items s
  | .commit position digest => Sys2Proof.Machine.execCommit position digest s
  | .askStatus position => Sys2Proof.Machine.execAskStatus position s
  | .askFaults position => Sys2Proof.Machine.execAskFaults position s
  | .askCounters position => Sys2Proof.Machine.execAskCounters position s
  | .askStriker position striker => Sys2Proof.Machine.execAskStriker position striker s
  | .askDampers position => Sys2Proof.Machine.execAskDampers position s
  | .askRotor position => Sys2Proof.Machine.execAskRotor position s
  | .askClock position => Sys2Proof.Machine.execAskClock position s
  | .askLink position => Sys2Proof.Machine.execAskLink position s
  | .askDigests position => Sys2Proof.Machine.execAskDigests position s
  | .askTable position table bank start count => Sys2Proof.Machine.execAskTable position table bank start count s
  | .askUnknownSubject position subject => Sys2Proof.Machine.execAskUnknownSubject position subject s
  | .clearRecord position kind subject => Sys2Proof.Machine.execClearRecord position kind subject s
  | .clearAllFaults position => Sys2Proof.Machine.execClearAllFaults position s
  | .clearFirstFault position => Sys2Proof.Machine.execClearFirstFault position s
  | .clearStatistics position => Sys2Proof.Machine.execClearStatistics position s
  | .halt position => Sys2Proof.Machine.execHalt position s
  | .resume position => Sys2Proof.Machine.execResume position s
  | .restart position => Sys2Proof.Machine.execRestart position s
  | .probe originator number hold => Sys2Proof.Machine.execProbe originator number hold s
  | .badFrame port => Sys2Proof.Machine.execBadFrame port s
  | .unknownKindFrame kind payload => Sys2Proof.Machine.execUnknownKindFrame kind payload s
  | .malformedFrame kind payload => Sys2Proof.Machine.execMalformedFrame kind payload s
  | .returnedProbe originator number hold => Sys2Proof.Machine.execReturnedProbe originator number hold s
  | .relayFrame kind payload => Sys2Proof.Machine.execRelayFrame kind payload s
  | .downstreamFrameBoundary => Sys2Proof.Machine.execDownstreamFrameBoundary s
  | .probeSend => Sys2Proof.Machine.execProbeSend s
  | .probeWindowExpiry => Sys2Proof.Machine.execProbeWindowExpiry s
  | .probeTimeout => Sys2Proof.Machine.execProbeTimeout s
  | .upstreamFrameBoundary => Sys2Proof.Machine.execUpstreamFrameBoundary s
  | .slewGrain => Sys2Proof.Machine.execSlewGrain s
  | .due => Sys2Proof.Machine.execDue s
  | .driveEnd striker => Sys2Proof.Machine.execDriveEnd striker s
  | .recoveryEnd striker => Sys2Proof.Machine.execRecoveryEnd striker s
  | .busyUntilLapse striker => Sys2Proof.Machine.execBusyUntilLapse striker s
  | .impactPulse striker => Sys2Proof.Machine.execImpactPulse striker s
  | .impactWindowEnd striker => Sys2Proof.Machine.execImpactWindowEnd striker s
  | .coolingTick => Sys2Proof.Machine.execCoolingTick s
  | .travelEnd damper => Sys2Proof.Machine.execTravelEnd damper s
  | .chokeHoldExpiry damper => Sys2Proof.Machine.execChokeHoldExpiry damper s
  | .rampTick => Sys2Proof.Machine.execRampTick s
  | .stepRisingEdge => Sys2Proof.Machine.execStepRisingEdge s
  | .stepFallingEdge => Sys2Proof.Machine.execStepFallingEdge s
  | .alignTakesEffect => Sys2Proof.Machine.execAlignTakesEffect s
  | .indexPulse => Sys2Proof.Machine.execIndexPulse s
  | .swapTimeReached => Sys2Proof.Machine.execSwapTimeReached s
  | .supervisionDeadline => Sys2Proof.Machine.execSupervisionDeadline s
  | .holdoverExpiry => Sys2Proof.Machine.execHoldoverExpiry s
  | .configTimeout => Sys2Proof.Machine.execConfigTimeout s
  | .driverFaultInputChange group asserted => Sys2Proof.Machine.execDriverFaultInputChange group asserted s
  | .driverFaultFilterExpiry group => Sys2Proof.Machine.execDriverFaultFilterExpiry group s
  | .supplyLevelChange level => Sys2Proof.Machine.execSupplyLevelChange level s
  | .supplyFilterExpiry => Sys2Proof.Machine.execSupplyFilterExpiry s
  | .lampBlinkPhase => Sys2Proof.Machine.execLampBlinkPhase s
  | .powerOn => Sys2Proof.Machine.execPowerOn s
  | .resetLine => Sys2Proof.Machine.execResetLine s
  | .resetEnd => Sys2Proof.Machine.execResetEnd s
  | .resetLineRelease => Sys2Proof.Machine.execResetLineRelease s

end Sys2Proof.Machine
end

