-- ==== Sys2Proof/WellFormed.lean ====
section
/-! DEFINITION. Which commands are well-formed: what their rows' words say of their operands. Every other
operand may take every value (R122, R176). -/
namespace Sys2Proof

open Machine in
/-- The payload's length fits its known forward-lane kind, the variant or subject byte selecting it (R175). -/
def lengthFits (kind : Byte) (payload : List Byte) : Bool :=
  let n := payload.length
  let selector := payload.getD 1 0
  if kind = Kind.mark then n == 9
  else if kind = Kind.play then n == 8 || n == 10
  else if kind = Kind.mute ∨ kind = Kind.bankswap then n == 7
  else if kind = Kind.set then
    (n == 3 && selector == 0) || (n == 4 && (selector == 1 || selector == 2)) || (n == 6 && selector == 3)
  else if kind = Kind.flush then (n == 2 && selector == 0) || (n == 6 && selector == 1)
  else if kind = Kind.loadOpen ∨ kind = Kind.probe then n == 4
  else if kind = Kind.loadData then decide (3 ≤ n)
  else if kind = Kind.commit then n == 3
  else if kind = Kind.ask then
    (n == 2 && selector != 3 && selector != 9) || (n == 3 && selector == 3) || (n == 7 && selector == 9)
  else if kind = Kind.clear then
    (n == 4 && selector == 0) || (n == 2 && (selector == 1 || selector == 2 || selector == 3))
  else n == 1

/-- The largest payload a good frame has (R120). -/
def fitsEnvelope (payload : List Byte) : Bool := decide (payload.length ≤ 240)

/-- The command is one its row can stand for. -/
def Instr.wf : Instr → Bool
  | .loadData _ _ items => decide (1 ≤ items.length) && decide (items.length ≤ 238)
  | .askUnknownSubject _ subject => decide (10 ≤ subject.toNat)
  | .unknownKindFrame kind payload => !Machine.forwardKinds.contains kind && fitsEnvelope payload
  | .malformedFrame kind payload =>
    Machine.forwardKinds.contains kind && !lengthFits kind payload && fitsEnvelope payload
  | .relayFrame kind payload =>
    !(kind == Machine.Kind.probe && payload.length == 4) && fitsEnvelope payload
  | .mark .. | .play .. | .mute .. | .setMasterGain .. | .setQuietCeiling .. | .setRotorRate ..
  | .setRotorAlign .. | .flushAll .. | .flushFromTime .. | .bankswap .. | .loadOpen .. | .commit ..
  | .askStatus .. | .askFaults .. | .askCounters .. | .askStriker .. | .askDampers .. | .askRotor ..
  | .askClock .. | .askLink .. | .askDigests .. | .askTable .. | .clearRecord .. | .clearAllFaults ..
  | .clearFirstFault .. | .clearStatistics .. | .halt .. | .resume .. | .restart .. | .probe ..
  | .badFrame .. | .returnedProbe .. | .downstreamFrameBoundary | .probeSend | .probeWindowExpiry
  | .probeTimeout | .upstreamFrameBoundary | .slewGrain | .due | .driveEnd .. | .recoveryEnd ..
  | .busyUntilLapse .. | .impactPulse .. | .impactWindowEnd .. | .coolingTick | .travelEnd ..
  | .chokeHoldExpiry .. | .rampTick | .stepRisingEdge | .stepFallingEdge | .alignTakesEffect
  | .indexPulse | .swapTimeReached | .supervisionDeadline | .holdoverExpiry | .configTimeout
  | .driverFaultInputChange .. | .driverFaultFilterExpiry .. | .supplyLevelChange ..
  | .supplyFilterExpiry | .lampBlinkPhase | .powerOn | .resetLine | .resetEnd | .resetLineRelease => true

end Sys2Proof
end

