-- ==== Sys2Proof/Machine/Receiver.lean ====
section
/-! DEFINITION. The receivers: how the bytes after a start delimiter become a command, and the frame that a
command stands for (07, R120, R122, R130; 11, R174, R175). The block takes commands; this file says which one a
frame on a port is. -/
namespace Sys2Proof.Machine

/-! ### Words of bytes, most significant byte first -/

/-- The word of two bytes. -/
def word2 (b1 b0 : Byte) : Half := b1 ++ b0

/-- The word of three bytes. -/
def word3 (b2 b1 b0 : Byte) : BitVec 24 := b2 ++ b1 ++ b0

/-- The word of four bytes. -/
def word4 (b3 b2 b1 b0 : Byte) : BitVec 32 := b3 ++ b2 ++ b1 ++ b0

/-! ### A good frame on the upstream port (R122, R175) -/

/-- PLAY, with and without a choke duration. -/
def Frame.asPlay : List Byte → Option Instr
  | [e, n, f, a, t3, t2, t1, t0] => some (.play e n f a (word4 t3 t2 t1 t0) none)
  | [e, n, f, a, t3, t2, t1, t0, c1, c0] => some (.play e n f a (word4 t3 t2 t1 t0) (some (word2 c1 c0)))
  | _ => none

/-- SET, by variant. -/
def Frame.asSet : List Byte → Option Instr
  | [e, v, g] => if v = 0 then some (.setMasterGain e g) else none
  | [e, v, w1, w0] =>
    if v = 1 then some (.setQuietCeiling e (word2 w1 w0))
    else if v = 2 then some (.setRotorRate e (word2 w1 w0))
    else none
  | [e, v, t3, t2, t1, t0] => if v = 3 then some (.setRotorAlign e (word4 t3 t2 t1 t0)) else none
  | _ => none

/-- FLUSH, by variant. -/
def Frame.asFlush : List Byte → Option Instr
  | [e, v] => if v = 0 then some (.flushAll e) else none
  | [e, v, t3, t2, t1, t0] => if v = 1 then some (.flushFromTime e (word4 t3 t2 t1 t0)) else none
  | _ => none

/-- An ASK of length 2, by subject. -/
def Frame.askSubject (p subject : Byte) : Option Instr :=
  match subject.toNat with
  | 0 => some (.askStatus p)
  | 1 => some (.askFaults p)
  | 2 => some (.askCounters p)
  | 3 => none
  | 4 => some (.askDampers p)
  | 5 => some (.askRotor p)
  | 6 => some (.askClock p)
  | 7 => some (.askLink p)
  | 8 => some (.askDigests p)
  | 9 => none
  | _ => some (.askUnknownSubject p subject)

/-- ASK, by subject. -/
def Frame.asAsk : List Byte → Option Instr
  | [p, subject] => Frame.askSubject p subject
  | [p, subject, n] => if subject = 3 then some (.askStriker p n) else none
  | [p, subject, t, b, s1, s0, c] => if subject = 9 then some (.askTable p t b (word2 s1 s0) c) else none
  | _ => none

/-- CLEAR, by variant. -/
def Frame.asClear : List Byte → Option Instr
  | [p, v] =>
    if v = 1 then some (.clearAllFaults p)
    else if v = 2 then some (.clearFirstFault p)
    else if v = 3 then some (.clearStatistics p)
    else none
  | [p, v, k, n] => if v = 0 then some (.clearRecord p k n) else none
  | _ => none

/-- A payload of one position byte. -/
def Frame.asPosition (command : Byte → Instr) : List Byte → Option Instr
  | [p] => some (command p)
  | _ => none

/-- MARK. -/
def Frame.asMark : List Byte → Option Instr
  | [t3, t2, t1, t0, h, d2, d1, d0, q] => some (.mark (word4 t3 t2 t1 t0) h (word3 d2 d1 d0) q)
  | _ => none

/-- MUTE. -/
def Frame.asMute : List Byte → Option Instr
  | [e, d, a, t3, t2, t1, t0] => some (.mute e d a (word4 t3 t2 t1 t0))
  | _ => none

/-- BANKSWAP. -/
def Frame.asBankswap : List Byte → Option Instr
  | [p, t3, t2, t1, t0, d1, d0] => some (.bankswap p (word4 t3 t2 t1 t0) (word2 d1 d0))
  | _ => none

/-- LOAD_OPEN. -/
def Frame.asLoadOpen : List Byte → Option Instr
  | [p, t, s1, s0] => some (.loadOpen p t (word2 s1 s0))
  | _ => none

/-- LOAD_DATA: at least one byte of items. -/
def Frame.asLoadData : List Byte → Option Instr
  | p :: n :: b :: bs => some (.loadData p n (b :: bs))
  | _ => none

/-- COMMIT. -/
def Frame.asCommit : List Byte → Option Instr
  | [p, d1, d0] => some (.commit p (word2 d1 d0))
  | _ => none

/-- PROBE. -/
def Frame.asProbe (command : Byte → Byte → Half → Instr) : List Byte → Option Instr
  | [o, n, h1, h0] => some (command o n (word2 h1 h0))
  | _ => none

/-- The command of a payload under a forward-lane kind, if its length is right; the kind must be one. -/
def Frame.asForward (kind : Byte) (payload : List Byte) : Option Instr :=
  if kind = Kind.mark then Frame.asMark payload
  else if kind = Kind.play then Frame.asPlay payload
  else if kind = Kind.mute then Frame.asMute payload
  else if kind = Kind.set then Frame.asSet payload
  else if kind = Kind.flush then Frame.asFlush payload
  else if kind = Kind.bankswap then Frame.asBankswap payload
  else if kind = Kind.loadOpen then Frame.asLoadOpen payload
  else if kind = Kind.loadData then Frame.asLoadData payload
  else if kind = Kind.commit then Frame.asCommit payload
  else if kind = Kind.ask then Frame.asAsk payload
  else if kind = Kind.clear then Frame.asClear payload
  else if kind = Kind.halt then Frame.asPosition .halt payload
  else if kind = Kind.resume then Frame.asPosition .resume payload
  else if kind = Kind.restart then Frame.asPosition .restart payload
  else Frame.asProbe .probe payload

/-- The command of a good frame on the upstream port (R122). -/
def Frame.readUp (f : Frame) : Instr :=
  if forwardKinds.contains f.kind then
    (Frame.asForward f.kind f.payload).getD (.malformedFrame f.kind f.payload)
  else .unknownKindFrame f.kind f.payload

/-- The command of a good frame on the downstream port (R130). -/
def Frame.readDown (f : Frame) : Instr :=
  if f.kind = Kind.probe then
    (Frame.asProbe .returnedProbe f.payload).getD (.relayFrame f.kind f.payload)
  else .relayFrame f.kind f.payload

/-- The command of a good frame on a port. -/
def Frame.read (port : Port) (f : Frame) : Instr :=
  match port with
  | .upstream => f.readUp
  | .downstream => f.readDown

/-- The bytes that followed a start delimiter are judged (R120). `closed` says how they ended: at the frame's
end delimiter, or, when false, interrupted by another start delimiter or by idle fill, which makes the frame
bad whatever its bytes. A good frame's length byte is at most 240, as many payload bytes stand before the CRC,
and the CRC is theirs. -/
def receive (port : Port) (closed : Bool) (bytes : List Byte) : Instr :=
  match bytes with
  | kind :: len :: rest =>
    let payload := rest.take len.toNat
    if closed = true ∧ len.toNat ≤ 240 ∧ rest = payload ++ bytes2 (crc16 (kind :: len :: payload))
        ∧ payload.length = len.toNat then
      Frame.read port ⟨kind, payload⟩
    else .badFrame port
  | _ => .badFrame port

/-! ### The frame a command stands for (11, Payloads) -/

/-- The port and the frame of a command, for the commands that are good frames. -/
def arrivesAs : Instr → Option (Port × Frame)
  | .mark t h d q => some (.upstream, markFrame t h d q)
  | .play e n f a t c => some (.upstream, playFrame e n f a t c)
  | .mute e d a t => some (.upstream, muteFrame e d a t)
  | .setMasterGain e g => some (.upstream, setFrame e 0x00 [g])
  | .setQuietCeiling e c => some (.upstream, setFrame e 0x01 (bytes2 c))
  | .setRotorRate e r => some (.upstream, setFrame e 0x02 (bytes2 r))
  | .setRotorAlign e t => some (.upstream, setFrame e 0x03 (bytes4 t))
  | .flushAll e => some (.upstream, flushFrame e 0x00 [])
  | .flushFromTime e t => some (.upstream, flushFrame e 0x01 (bytes4 t))
  | .bankswap p t d => some (.upstream, bankswapFrame p t d)
  | .loadOpen p t i => some (.upstream, loadOpenFrame p t i)
  | .loadData p n items => some (.upstream, loadDataFrame p n items)
  | .commit p d => some (.upstream, commitFrame p d)
  | .askStatus p => some (.upstream, askFrame p 0x00 [])
  | .askFaults p => some (.upstream, askFrame p 0x01 [])
  | .askCounters p => some (.upstream, askFrame p 0x02 [])
  | .askStriker p n => some (.upstream, askFrame p 0x03 [n])
  | .askDampers p => some (.upstream, askFrame p 0x04 [])
  | .askRotor p => some (.upstream, askFrame p 0x05 [])
  | .askClock p => some (.upstream, askFrame p 0x06 [])
  | .askLink p => some (.upstream, askFrame p 0x07 [])
  | .askDigests p => some (.upstream, askFrame p 0x08 [])
  | .askTable p t b i c => some (.upstream, askFrame p 0x09 (t :: b :: bytes2 i ++ [c]))
  | .askUnknownSubject p n => some (.upstream, askFrame p n [])
  | .clearRecord p k n => some (.upstream, clearFrame p 0x00 [k, n])
  | .clearAllFaults p => some (.upstream, clearFrame p 0x01 [])
  | .clearFirstFault p => some (.upstream, clearFrame p 0x02 [])
  | .clearStatistics p => some (.upstream, clearFrame p 0x03 [])
  | .halt p => some (.upstream, haltFrame p)
  | .resume p => some (.upstream, resumeFrame p)
  | .restart p => some (.upstream, restartFrame p)
  | .probe o n h => some (.upstream, probeFrame o n h)
  | .unknownKindFrame k bs => some (.upstream, ⟨k, bs⟩)
  | .malformedFrame k bs => some (.upstream, ⟨k, bs⟩)
  | .returnedProbe o n h => some (.downstream, probeFrame o n h)
  | .relayFrame k bs => some (.downstream, ⟨k, bs⟩)
  | .badFrame _ | .downstreamFrameBoundary | .probeSend | .probeWindowExpiry | .probeTimeout
  | .upstreamFrameBoundary | .slewGrain | .due | .driveEnd _ | .recoveryEnd _ | .busyUntilLapse _
  | .impactPulse _ | .impactWindowEnd _ | .coolingTick | .travelEnd _ | .chokeHoldExpiry _ | .rampTick
  | .stepRisingEdge | .stepFallingEdge | .alignTakesEffect | .indexPulse | .swapTimeReached
  | .supervisionDeadline | .holdoverExpiry | .configTimeout | .driverFaultInputChange _ _
  | .driverFaultFilterExpiry _ | .supplyLevelChange _ | .supplyFilterExpiry | .lampBlinkPhase | .powerOn
  | .resetLine | .resetEnd | .resetLineRelease => none

end Sys2Proof.Machine
end

