-- ==== Sys2Proof/Safety.lean ====
section
/-! DEFINITION. What counts as a safe state: the laws that the manual's blocks hold. Each is a predicate of one
state; the statements say that reset has it and that every step keeps it. -/
namespace Sys2Proof.Machine

/-- No reset is in progress. -/
abbrev State.Awake (s : State) : Prop := s.resetting = none

/-- The state after a command that is run at once, apart from the queue. -/
def State.after (c : Instr) (s : State) : State :=
  match exec c s with
  | .next t => t
  | _ => s

/-- The mode and the band let actuators move, and no reset is in progress (R67, R88, R97, R159). -/
abbrev State.MayDrive (s : State) : Prop := s.mdc.mode = .run ∧ s.sup.band ≠ .cut ∧ s.resetting = none

/-- Nothing moves: no striker drives, every damper is down with its coil off and no hold running, the rotor
stands still. -/
structure State.Resting (s : State) : Prop where
  strikers : ∀ n : Fin 24, (s.channel n).output = false ∧ (s.channel n).drive = none
  dampers : ∀ d : Fin 4, s.damper d = {}
  rotorRates : s.rot.target = 0 ∧ s.rot.current = 0
  rotorOutput : s.rot.output = false ∧ s.rot.cycle = none ∧ s.rot.align = none

/-- No striker output is on, no damper coil is energized and the rotor stands still while the mode is other
than RUN, the band is CUT or a reset lasts (R67, R88, R97, R159). -/
structure State.OutputLaw (s : State) : Prop where
  resting : ¬s.MayDrive → s.Resting
  strikers : ∀ n : Fin 24, (s.channel n).output = true → (s.channel n).drive ≠ none
  coils : ∀ d : Fin 4,
    (s.damper d).coil = true ↔ (s.damper d).state = .releasing ∨ (s.damper d).state = .released

/-- The schedule: at most 256 entries, in order of action time, each within the horizon and none before now,
none at all outside RUN (R39, R40, R50). The setup margin's range is what R26 needs for it (R163). -/
structure State.ScheduleLaw (s : State) : Prop where
  capacity : s.sch.entries.length ≤ Config.scheduleCapacity
  order : s.sch.entries.Pairwise fun a b => signedDiff a.action b.action ≤ 0
  span : ∀ e ∈ s.sch.entries,
    0 ≤ signedDiff e.action s.now ∧ signedDiff e.action s.now ≤ Config.horizon
  onlyInRun : s.mdc.mode ≠ .run → s.sch.entries = []
  setup : s.node.setupMargin ≤ 1000

/-- No two pending strike entries of one striker have overlapping reserved windows, and none has its drive start
before that striker's busy-until (R42). -/
structure State.WindowLaw (s : State) : Prop where
  apart : s.sch.entries.Pairwise fun a b =>
    ∀ n v e w f, a.work = .strike n v e → b.work = .strike n w f →
      windowsOverlap ((s.strikerRecord n).wMax + (s.strikerRecord n).recovery) a.action b.action = false
  free : ∀ x ∈ s.sch.entries, ∀ n w e, x.work = .strike n w e →
    ∀ t, (s.channel n).busyUntil = some t → before x.action t = false

/-- The strike counters account for every accepted strike (R53). -/
abbrev State.Conserves (s : State) : Prop :=
  s.sch.accepted
    = asCount (strikeCount s.sch.entries) + s.sch.started + s.sch.dropped.total + s.sch.flushed

/-- The queues and the fault list keep their capacities; MARKs wait before other copies; a pair has at most
one record (R126, R130, R131, R137). -/
structure State.QueueLaw (s : State) : Prop where
  forward : s.liu.forward.length ≤ Config.forwardCapacity
  marksFirst : s.liu.forward.Pairwise fun a b => b.isMark = true → a.isMark = true
  relay : s.liu.relay.length ≤ Config.relayCapacity
  answer : s.liu.answer.length ≤ Config.answerCapacity
  faults : s.svu.faults.length ≤ Config.faultCapacity
  onePerPair : (s.svu.faults.map FaultRecord.pair).Nodup

/-- One channel's values stay in their ranges; a running drive ends within its width, and its width is at most
the striker's maximum (R61, R66, R71, R75, R77). -/
structure ChannelLaw (now : ShowTime) (r : StrikerRecord) (c : Channel) : Prop where
  heat : c.heat ≤ 65535
  trim : -512 ≤ c.trim ∧ c.trim ≤ 511
  runs : c.missRun ≤ 2 ∧ c.outlierRun ≤ 2 ∧ (c.missRun = 0 ∨ c.outlierRun = 0)
  drive : ∀ d, c.drive = some d →
    d.width ≤ r.wMax ∧ 0 ≤ signedDiff d.endTime now ∧ signedDiff d.endTime now ≤ d.width

/-- Every channel keeps its law; maximum widths are in their range (R162). -/
structure State.StrikerLaw (s : State) : Prop where
  channels : ∀ n : Fin 24, ChannelLaw s.now (s.strikerRecord n) (s.channel n)
  widths : ∀ n : Fin 24, (s.strikerRecord n).wMax ≤ 2047

/-- The show clock: ranges, no slew while unlocked, marks and holdover start where the sync state needs them,
and no pending swap while unlocked (R10, R101 to R107). -/
structure State.ClockLaw (s : State) : Prop where
  confidence : s.scu.confidence ≤ 8
  slew : -64 ≤ s.scu.slew ∧ s.scu.slew ≤ 64
  unslewed : s.scu.sync.notLocked = true → s.scu.slew = 0 ∧ s.tbs.pendingSwap = none
  locked : s.scu.sync.notLocked = false → 1 ≤ s.scu.confidence ∧ s.scu.lastMark ≠ none
  holdover : s.scu.sync = .holdover ↔ s.scu.holdoverStart ≠ none

/-- The load pointer is OPEN only on a table that is writable in the present mode, inside it; no swap is
pending in LOCKED_OUT (R154, R164). -/
structure State.PointerLaw (s : State) : Prop where
  pointer : ∀ p, s.tbs.pointer = some p →
    p.table.writable s.mdc.mode = true ∧ p.next < p.table.count
  swap : s.mdc.mode = .lockedOut → s.tbs.pendingSwap = none

/-- What the lamp shows follows mode, fault list and reaction classes (R144). -/
abbrev State.LampLaw (s : State) : Prop := s.svu.lamp = s.lampPattern

/-- The rotor: rates and position in range, a step cycle exactly while the current rate is not 0 (R92 to
R95). -/
structure State.RotorLaw (s : State) : Prop where
  rates : s.rot.target ≤ 1500 ∧ s.rot.current ≤ 1500
  steps : 1 ≤ s.node.stepsPerRev ∧ s.node.stepsPerRev ≤ 1000
  position : s.rot.position < s.node.stepsPerRev
  cycle : s.rot.cycle = none ↔ s.rot.current = 0
  output : s.rot.output = true → s.rot.cycle ≠ none
  index : s.rot.lastIndexError ≤ 999 ∧ s.rot.indexErrors ≤ 65535

/-- Every stored item is the correction of its own canonical bytes (R177): what ASK TABLE returns and the
digests cover is what the node uses. -/
structure State.StoredLaw (s : State) : Prop where
  strikers : ∀ n : Fin 24, StrikerRecord.ofBytes (s.strikerRecord n).bytes = s.strikerRecord n
  dampers : ∀ d : Fin 4, DamperRecord.ofBytes (s.damperRecord d).bytes = s.damperRecord d
  node : NodeRecord.ofBytes s.node.bytes = s.node
  supervision : ∀ i : Fin 16, SupervisionItem.ofBytes s.tbs.supervision[i].bytes = s.tbs.supervision[i]
  notes : ∀ i : Fin 128, NoteEntry.ofBytes s.tbs.bankA.notes[i].bytes = s.tbs.bankA.notes[i]
    ∧ NoteEntry.ofBytes s.tbs.bankB.notes[i].bytes = s.tbs.bankB.notes[i]
  curves : ∀ i : Fin 512, curveOfBytes (nat2 s.tbs.bankA.curves[i]) = s.tbs.bankA.curves[i]
    ∧ curveOfBytes (nat2 s.tbs.bankB.curves[i]) = s.tbs.bankB.curves[i]
  articulations : ∀ i : Fin 3,
    ArticulationItem.ofBytes s.tbs.bankA.articulations[i].bytes = s.tbs.bankA.articulations[i]
    ∧ ArticulationItem.ofBytes s.tbs.bankB.articulations[i].bytes = s.tbs.bankB.articulations[i]

/-! ### Commands that are frames for an owner -/

/-- The ensemble address reaches the node (R123). -/
abbrev State.HearsEnsemble (e : Byte) (s : State) : Prop :=
  e = s.node.ensemble ∨ s.node.group1 = some e ∨ s.node.group2 = some e ∨ s.node.group3 = some e ∨ e = 255

/-- The ensemble address, the frame and the owner's effect of a performance frame but a MARK (R125). -/
def performanceParts : Instr → Option (Byte × Frame × (State → State))
  | .play e n f a t c => some (e, playFrame e n f a t c, State.takePlay n f a t c)
  | .mute e d a t => some (e, muteFrame e d a t, State.takeMute d a t)
  | .setMasterGain e g => some (e, setFrame e 0x00 [g], State.setGain g)
  | .setQuietCeiling e c => some (e, setFrame e 0x01 (bytes2 c), State.setCeiling c)
  | .setRotorRate e r => some (e, setFrame e 0x02 (bytes2 r), State.setRate r.toNat)
  | .setRotorAlign e t => some (e, setFrame e 0x03 (bytes4 t), State.setAlign t)
  | .flushAll e => some (e, flushFrame e 0x00 [], State.flushSchedule)
  | .flushFromTime e t => some (e, flushFrame e 0x01 (bytes4 t), State.flushFrom t)
  | _ => none

/-- The position, the frame and the owner's effect of a management frame but a RESTART (R125). -/
def managementParts : Instr → Option (Byte × Frame × (State → State))
  | .bankswap p t d => some (p, bankswapFrame p t d, State.bankSwap t d)
  | .loadOpen p t i => some (p, loadOpenFrame p t i, State.openPointer t i.toNat)
  | .loadData p n bs => some (p, loadDataFrame p n bs, State.loadItems n bs)
  | .commit p d => some (p, commitFrame p d, State.commitTables d)
  | .clearRecord p k n => some (p, clearFrame p 0x00 [k, n], State.clearNamed k n)
  | .clearAllFaults p => some (p, clearFrame p 0x01 [], State.clearAll)
  | .clearFirstFault p => some (p, clearFrame p 0x02 [], State.emptyFirst)
  | .clearStatistics p => some (p, clearFrame p 0x03 [], State.clearStatistics)
  | .halt p => some (p, haltFrame p, State.haltMode)
  | .resume p => some (p, resumeFrame p, State.resumeMode)
  | _ => none

/-- The position, the subject, the parameters and the content of an ASK (R169). -/
def askParts : Instr → Option (Byte × Byte × List Byte × (State → List Byte))
  | .askStatus p => some (p, 0x00, [], State.statusContent)
  | .askFaults p => some (p, 0x01, [], State.faultsContent)
  | .askCounters p => some (p, 0x02, [], State.countersContent)
  | .askStriker p n => some (p, 0x03, [n], State.strikerContent n)
  | .askDampers p => some (p, 0x04, [], State.dampersContent)
  | .askRotor p => some (p, 0x05, [], State.rotorContent)
  | .askClock p => some (p, 0x06, [], State.clockContent)
  | .askLink p => some (p, 0x07, [], State.linkContent)
  | .askDigests p => some (p, 0x08, [], State.digestsContent)
  | .askTable p t b i c => some (p, 0x09, t :: b :: bytes2 i ++ [c], State.tableContent t b i c)
  | .askUnknownSubject p n => some (p, n, [], fun _ => [])
  | _ => none

/-- Whether a frame of the node's own position stops here: the node is placed there (R123, R125). -/
abbrev State.Owns (p : Byte) (s : State) : Prop := p = s.liu.position ∧ p ≠ 255

/-- The state in which nothing moves and nothing is sent, as a reset begins: drives end without heat, dampers
drop, the rotor stops, the lamp goes off, transmissions are cut (R80, R88, R97, R134, R159). -/
def State.cutOff (s : State) : State :=
  { s with
    stc := { s.stc with channels := tabulate fun n => { s.stc.channels[n] with output := false, drive := none } }
    dmc := {}
    rot := { s.rot with target := 0, current := 0, output := false, cycle := none, align := none }
    svu := { s.svu with lampOn := false }
    liu := { s.liu with sendingDown := none, sendingUp := none } }

end Sys2Proof.Machine
end

