-- ==== Sys2Proof/Certificates/Slice0/Obligations.lean ====
section
/-! DEFINITION. The statements for the provers. An equality with a whole next state says the effect and the frame
at once: every part that is not written is the part of the state before. In a statement about a frame, `heard` is
the state after the frame has been counted as good, which its own statement describes; that the counting comes first
is the model's choice (log entry 34). -/
open Sys2Proof Sys2Proof.Machine

/-! ### The queue and the step -/

/-- A step takes the command at the front of the queue and runs it with the queue's rest (the model's own step,
log entry 1). -/
def Obligations.StepRunsTheFrontCommand : Prop :=
  ∀ (c : Instr) (rest : List Instr) (s : State),
    step { s with pending := c :: rest } = exec c { s with pending := rest }

/-- With an empty queue a step takes one of the events that have fallen, or the slew grain that is next, or lets one
fine unit of local time pass: at the end of a grain the show clock then advances by one, and with a correction
pending the slew count by one, the grain then running when it was set included (R101; log entries 1, 5 and 35, the
model's choice). The slew grain is every 16th grain that the slew count counts while a correction is pending. The
events that have fallen are those of the show clock whose show time is not after now, an impact window's whose end
is before now, and those of local time whose tick, deadline, limit, timeout, filter or blink boundary has come;
while a reset lasts, its own end. Where none has fallen, each of the block's own event commands changes nothing
(R43, R63 to R65, R72, R76, R86, R87, R93 to R96, R10, R106, R107, R111, R115, R144, R146, R147, R154, R159). -/
def Obligations.IdleStepTakesAnEventOrLetsTimePass : Prop :=
  (∀ s : State, s.pending = [] →
    (s.fallenEvents ≠ [] → ∃ c ∈ s.fallenEvents, step s = exec c { s with choices := s.choices + 1 }) ∧
    (s.fallenEvents = [] → s.Awake → s.slewNext = true →
      step s = exec .slewGrain { s with choices := s.choices + 1 }) ∧
    (s.fallenEvents = [] → s.Awake → s.slewNext = false → (s.localTime + 1) % 16 = 0 →
      step s = .next
        { s with
          localTime := s.localTime + 1
          scu :=
            { s.scu with
              now := s.scu.now + 1
              slewCount := if s.scu.slew = 0 then s.scu.slewCount else s.scu.slewCount + 1 } }) ∧
    (s.fallenEvents = [] → ¬s.Awake ∨ (s.localTime + 1) % 16 ≠ 0 →
      step s = .next { s with localTime := s.localTime + 1 })) ∧
  (∀ s : State,
    let came (t : Option ShowTime) : Bool := match t with | none => false | some t => decide (signedDiff t s.now ≤ 0)
    let past (t : Option Nat) : Bool := match t with | none => false | some t => decide (t ≤ s.localTime)
    let level : Bool :=
      match s.svu.lamp with
      | .off => false
      | .steady => true
      | .slowBlink => decide (s.localTime % (100000 * 16) < 50000 * 16)
      | .fastBlink => decide (s.localTime % (25000 * 16) < 12500 * 16)
    let ofShowTime (c : Instr) : Bool :=
      match c with
      | .due => came (s.sch.entries.head?.map Entry.action)
      | .driveEnd n => came ((s.channel n).drive.map fun d => d.start + BitVec.ofNat 32 d.width)
      | .recoveryEnd n => came (s.channel n).recoveryEnd
      | .busyUntilLapse n => came (s.channel n).busyUntil
      | .impactWindowEnd n =>
        (match (s.channel n).window with
         | none => false
         | some e =>
           decide (signedDiff (e + BitVec.ofNat 32 (s.strikerRecord n).impactWindow) s.now < 0))
      | .travelEnd d => came (s.damper d).travelEnd
      | .chokeHoldExpiry d => came (s.damper d).hold
      | .stepRisingEdge => !s.rot.output && came (s.rot.cycle.map StepCycle.nextChange)
      | .stepFallingEdge => s.rot.output && came (s.rot.cycle.map StepCycle.nextChange)
      | .alignTakesEffect => came s.rot.align
      | .swapTimeReached => came s.tbs.pendingSwap
      | _ => false
    let ofLocalTime (c : Instr) : Bool :=
      match c with
      | .coolingTick => decide (s.stc.coolingNext ≤ s.localTime)
      | .rampTick => decide (s.rot.rampNext ≤ s.localTime)
      | .supervisionDeadline =>
        decide (s.scu.sync = .locked) && past (s.scu.lastMark.map fun t => t + 16 * (2 * s.node.markPeriod))
      | .holdoverExpiry =>
        decide (s.scu.sync = .holdover) && past (s.scu.holdoverStart.map fun t => t + 16 * s.node.holdoverLimit)
      | .configTimeout => decide (s.mdc.mode = .config) && past s.mdc.timer
      | .probeSend =>
        (match s.pdu.probeDue with
         | .window t =>
           decide
             (s.localTime ≤ t ∧ s.liu.sendingDown = none ∧ s.liu.forward = [] ∧ s.pdu.outstanding = none ∧
               s.node.chainEnd = false)
         | _ => false)
      | .probeWindowExpiry => (match s.pdu.probeDue with | .window t => decide (t < s.localTime) | _ => false)
      | .probeTimeout =>
        (match s.pdu.outstanding with
         | none => false
         | some o => past (o.sentAt.map fun t => t + 256 * 16))
      | .driverFaultFilterExpiry g =>
        decide (s.svu.driverInput[g] ≠ s.svu.driverFault[g] ∧ s.svu.driverChanged[g] + 5 * 16 ≤ s.localTime)
      | .supplyFilterExpiry => past (s.sup.candidate.map fun c => c.start + 16 * (100 * s.node.filterTime))
      | .lampBlinkPhase => decide (s.svu.lampOn ≠ level)
      | _ => false
    let ofTheBlock (c : Instr) : Bool :=
      match c with
      | .due | .driveEnd _ | .recoveryEnd _ | .busyUntilLapse _ | .impactWindowEnd _ | .travelEnd _
      | .chokeHoldExpiry _ | .stepRisingEdge | .stepFallingEdge | .alignTakesEffect | .swapTimeReached
      | .coolingTick | .rampTick | .supervisionDeadline | .holdoverExpiry | .configTimeout | .probeSend
      | .probeWindowExpiry | .probeTimeout | .driverFaultFilterExpiry _ | .supplyFilterExpiry
      | .lampBlinkPhase => true
      | _ => false
    (s.slewNext = true ↔
      (s.localTime + 1) % 16 = 0 ∧ s.scu.slew ≠ 0 ∧ (s.scu.slewCount + 1) % 16 = 0) ∧
    (∀ c : Instr,
      (c ∈ s.fallenShow.map ShowEvent.command ↔ ofShowTime c = true) ∧
      (s.Awake → (c ∈ s.fallenEvents ↔ ofShowTime c = true ∨ ofLocalTime c = true)) ∧
      (s.Awake → s.fallenEvents = [] → ofTheBlock c = true → exec c s = .next s)) ∧
    (∀ e : ResetRun, s.resetting = some e →
      s.fallenEvents = if past e.endsAt = true then [.resetEnd] else []))

/-- Every command answers a next state in every state: the part never stops (log entries 2 and 24). -/
def Obligations.EveryCommandAnswersANextState : Prop :=
  ∀ (c : Instr) (s : State), ∃ t : State, exec c s = .next t

/-! ### Resets -/

/-- What the state after a power-on reset holds, register by register, where the manual gives a value; and it has all
the laws that the statements below say every step keeps. -/
def Obligations.ResetStateHoldsTheResetValues : Prop :=
  State.reset.mdc = { mode := .idle, timer := none, resetCause := .power, resumeRefused := 0 } ∧
  State.reset.scu =
    { now := 0, sync := .unlocked, confidence := 0, slew := 0, slewCount := 0, lastMark := none,
      holdoverStart := none, lastPathDelay := 0, qualityIn := .none } ∧
  State.reset.pdu =
    { average := 0, samples := 0, quality := .none, missing := 0, outstanding := none, nextProbe := 0,
      markCount := 0, probeDue := .none, downstreamLost := false } ∧
  State.reset.liu =
    { position := 255, forward := [], relay := [], answer := [], slot := none, turn := .relay,
      leakUp := 0, leakDown := 0, errorsUp := false, errorsDown := false, chainTooLong := false,
      counters := ⟨0, 0, 0, 0, 0, 0, 0, 0, 0, 0⟩, sendingDown := none, sendingUp := none } ∧
  (∀ n : Fin 24, State.reset.strikerRecord n =
    { enabled := false, fHard := 0, fSoft := 0, wMin := 0, wMax := 0, recovery := 0, hDerate := 0, hCut := 0,
      cooling := 0, sense := false, impactWindow := 0, adapt := false, trimSeed := 0 }) ∧
  (∀ d : Fin 4, State.reset.damperRecord d =
    { enabled := false, releaseTravel := 0, engageTravel := 0, chokeHold := 0 }) ∧
  State.reset.node =
    { ensemble := 0, group1 := none, group2 := none, group3 := none, compensation := true, chainEnd := false,
      notices := true, rotorEnabled := false, indexEnabled := false, markPeriod := 1000,
      holdoverLimit := 200000, setupMargin := 20, lateTolerance := 300, lowThreshold := 160,
      cutThreshold := 120, hysteresis := 8, filterTime := 10, stepsPerRev := 200, rampStep := 50 } ∧
  (∀ i : Fin 16, State.reset.tbs.supervision[i] =
    { reaction := if i = 2 then .recover else .warn, notice := true }) ∧
  State.reset.tbs.bankA = State.reset.tbs.bankB ∧
  (∀ i : Fin 128, State.reset.tbs.bankA.notes[i] =
    { enabled := false, primary := 0, alternate := none, curve := 0, offset := 0, choke := none }) ∧
  (∀ i : Fin 512, State.reset.tbs.bankA.curves[i] = 16 * (i.val % 64)) ∧
  (∀ i : Fin 3, State.reset.tbs.bankA.articulations[i] = { curve := none, offset := 0 }) ∧
  State.reset.tbs.playBank = .a ∧ State.reset.tbs.pendingSwap = none ∧
  State.reset.tbs.swapCancellations = 0 ∧ State.reset.tbs.pointer = none ∧
  State.reset.tbs.loadDiscards = 0 ∧
  State.reset.acu =
    { gain := 255, ceiling := 2047, refusals := ⟨0, 0, 0, 0, 0, 0, 0, 0, 0⟩, margins := ⟨none, none, none⟩ } ∧
  State.reset.sch =
    { entries := [], accepted := 0, started := 0, dropped := ⟨0, 0, 0, 0, 0, 0⟩, flushed := 0,
      damperAccepted := 0, damperPerformed := 0, damperRedundant := 0, damperDropped := 0,
      damperFlushed := 0 } ∧
  (∀ n : Fin 24, State.reset.channel n =
    { output := false, drive := none, recoveryEnd := none, busyUntil := none, heat := 0, trim := 0,
      missRun := 0, outlierRun := 0, window := none,
      marks := { noImpact := false, offTime := false, driverFault := false }, suspended := false }) ∧
  State.reset.stc.stray = 0 ∧ State.reset.stc.coolingNext = 1024 * 16 ∧
  (∀ d : Fin 4, State.reset.damper d =
    { state := .engaged, coil := false, travelEnd := none, choke := false, hold := none,
      handedOver := false }) ∧
  State.reset.rot =
    { target := 0, current := 0, output := false, cycle := none, position := 0, lastIndexError := 0,
      indexErrors := 0, align := none, rampNext := 1024 * 16 } ∧
  State.reset.sup.band = .normal ∧ State.reset.sup.candidate = none ∧ State.reset.sup.dips = 0 ∧
  State.reset.svu.faults = [] ∧ State.reset.svu.first = none ∧ State.reset.svu.overflow = 0 ∧
  State.reset.svu.lamp = .off ∧ State.reset.svu.lampOn = false ∧
  (∀ g : Fin 3, State.reset.svu.driverFault[g] = false) ∧
  State.reset.localTime = 0 ∧ State.reset.resetting = none ∧ State.reset.pending = [] ∧
  State.reset.OutputLaw ∧ State.reset.ScheduleLaw ∧ State.reset.Conserves ∧ State.reset.QueueLaw ∧
  State.reset.StrikerLaw ∧ State.reset.ClockLaw ∧ State.reset.PointerLaw ∧ State.reset.LampLaw ∧
  State.reset.RotorLaw ∧ State.reset.StoredLaw ∧ State.reset.WindowLaw

/-- Each reset begins by cutting off what moves and what is sent: the logic supply rises (and the supply-dip counter
becomes 0), the reset line is asserted, or a RESTART of the node's own position arrives, whose reset ends 10 grains
later (R125, R159, R160). A line reset's 10 grains begin at the release. While a reset lasts the node takes no
input: every command changes nothing but the reset's own and the two that set the level of an input pin (log entry
8). What R159 leaves open is the model's choice (log entry 9): everything but outputs and transmissions stands
during the reset, the dip counter is 0 from the beginning of a power-on reset, a line reset replaces a power-on
reset, a line already asserted begins nothing, and a release during another reset, or without an assertion, only
frees the pin. -/
def Obligations.ResetsBeginByCuttingOff : Prop :=
  ∀ s : State,
    exec .powerOn s = .next
      { s.cutOff with sup := { s.sup with dips := 0 }, resetting := some { cause := .power, endsAt := none } } ∧
    (s.lineAsserted = false → exec .resetLine s = .next
      { s.cutOff with lineAsserted := true, resetting := some { cause := .line, endsAt := none } }) ∧
    (s.lineAsserted = true → exec .resetLine s = .next s) ∧
    (∀ e, s.lineAsserted = true → s.resetting = some { cause := .line, endsAt := e } →
      exec .resetLineRelease s = .next
        { s with
          lineAsserted := false
          resetting := some { cause := .line, endsAt := some (s.localTime + 10 * 16) } }) ∧
    (s.lineAsserted = true → (∀ e, s.resetting ≠ some { cause := .line, endsAt := e }) →
      exec .resetLineRelease s = .next { s with lineAsserted := false }) ∧
    (s.lineAsserted = false → exec .resetLineRelease s = .next s) ∧
    (∀ p, s.Awake → s.Owns p →
      let heard := s.countGood .upstream
      exec (.restart p) s = .next
        { heard.cutOff with
          resetting := some { cause := .link, endsAt := some (s.localTime + 10 * 16) } }) ∧
    (∀ p, s.Awake → ¬s.Owns p →
      exec (.restart p) s = .next
        ((s.countGood .upstream).forwardCopy (restartFrame p) (p == s.liu.position || p == 255))) ∧
    (∀ c : Instr,
      let ofPinsOrResets : Bool :=
        match c with
        | .powerOn | .resetLine | .resetLineRelease | .resetEnd => true
        | .supplyLevelChange _ | .driverFaultInputChange _ _ => true
        | _ => false
      ¬s.Awake → ofPinsOrResets = false → exec c s = .next s)

/-- At the end of a reset every block takes its reset values: whatever is not written here is as in State.reset.
The reset cause is the reset's; the supply-dip counter is 0 after a power-on and kept otherwise; local time counts
from 0; the supply level is judged from NORMAL with the default thresholds (R147, R150, R159). The input pins keep
their levels (log entry 8, the model's choice), and a power-on reset ends with the reset line asserted too (log
entry 9, the model's choice). A reset that has not reached its end changes nothing (log entry 2). -/
def Obligations.ResetEndGivesEveryBlockItsResetValues : Prop :=
  ∀ (s : State) (r : ResetRun), s.resetting = some r →
    ((r.cause = .power ∨ ∃ e, r.endsAt = some e ∧ e ≤ s.localTime) →
      exec .resetEnd s = .next
        { State.reset with
          sup :=
            { band := .normal, dips := if r.cause = .power then 0 else s.sup.dips, level := s.sup.level
              candidate :=
                if s.sup.level.toNat < 120 then some { band := .cut, start := 0 }
                else if s.sup.level.toNat < 160 then some { band := .low, start := 0 }
                else none }
          svu := { State.reset.svu with driverInput := s.svu.driverInput }
          mdc := { State.reset.mdc with resetCause := r.cause }
          lineAsserted := s.lineAsserted
          pending := s.pending
          choices := s.choices }) ∧
    (r.cause ≠ .power → (∀ e, r.endsAt = some e → s.localTime < e) → exec .resetEnd s = .next s)

/-! ### Frames and items -/

/-- A port's receiver takes a run of bytes as good exactly when it ends at its end delimiter and is the envelope of
a frame with at most 240 payload bytes, and then reads it as that frame; a run that a start delimiter or idle fill
interrupts is bad whatever it holds. A frame between its delimiters is kind, length, payload and the CRC over them,
high byte first; each command that is a good frame arrives on its port with its kind code and the payload of the
formats chapter. Every well-formed command that is a good frame is read back from the bytes of its frame, with every
operand at every value (R120, R122, R130, R174, R175). -/
def Obligations.FramesReadBackAsTheirCommands : Prop :=
  let three (w : BitVec 24) : List Byte :=
    [BitVec.ofNat 8 (w.toNat / 65536), BitVec.ofNat 8 (w.toNat / 256), BitVec.ofNat 8 w.toNat]
  let up (kind : Byte) (payload : List Byte) : Option (Port × Frame) := some (.upstream, ⟨kind, payload⟩)
  let down (kind : Byte) (payload : List Byte) : Option (Port × Frame) := some (.downstream, ⟨kind, payload⟩)
  (∀ f : Frame,
    let body := f.kind :: BitVec.ofNat 8 f.payload.length :: f.payload
    f.wire = body ++ bytes2 (crc16 body)) ∧
  (∀ c : Instr, arrivesAs c =
    match c with
    | .mark t h d q => up 0x01 (bytes4 t ++ [h] ++ three d ++ [q])
    | .play e n f a t none => up 0x10 ([e, n, f, a] ++ bytes4 t)
    | .play e n f a t (some c) => up 0x10 ([e, n, f, a] ++ bytes4 t ++ bytes2 c)
    | .mute e d a t => up 0x11 ([e, d, a] ++ bytes4 t)
    | .setMasterGain e g => up 0x12 [e, 0x00, g]
    | .setQuietCeiling e v => up 0x12 ([e, 0x01] ++ bytes2 v)
    | .setRotorRate e v => up 0x12 ([e, 0x02] ++ bytes2 v)
    | .setRotorAlign e t => up 0x12 ([e, 0x03] ++ bytes4 t)
    | .flushAll e => up 0x13 [e, 0x00]
    | .flushFromTime e t => up 0x13 ([e, 0x01] ++ bytes4 t)
    | .bankswap p t d => up 0x20 ([p] ++ bytes4 t ++ bytes2 d)
    | .loadOpen p t i => up 0x21 ([p, t] ++ bytes2 i)
    | .loadData p n items => up 0x22 ([p, n] ++ items)
    | .commit p d => up 0x23 ([p] ++ bytes2 d)
    | .askStatus p => up 0x24 [p, 0x00]
    | .askFaults p => up 0x24 [p, 0x01]
    | .askCounters p => up 0x24 [p, 0x02]
    | .askStriker p n => up 0x24 [p, 0x03, n]
    | .askDampers p => up 0x24 [p, 0x04]
    | .askRotor p => up 0x24 [p, 0x05]
    | .askClock p => up 0x24 [p, 0x06]
    | .askLink p => up 0x24 [p, 0x07]
    | .askDigests p => up 0x24 [p, 0x08]
    | .askTable p t b i c => up 0x24 ([p, 0x09, t, b] ++ bytes2 i ++ [c])
    | .askUnknownSubject p n => up 0x24 [p, n]
    | .clearRecord p k n => up 0x25 [p, 0x00, k, n]
    | .clearAllFaults p => up 0x25 [p, 0x01]
    | .clearFirstFault p => up 0x25 [p, 0x02]
    | .clearStatistics p => up 0x25 [p, 0x03]
    | .halt p => up 0x26 [p]
    | .resume p => up 0x27 [p]
    | .restart p => up 0x28 [p]
    | .probe o n h => up 0x30 ([o, n] ++ bytes2 h)
    | .unknownKindFrame k bs | .malformedFrame k bs => up k bs
    | .returnedProbe o n h => down 0x30 ([o, n] ++ bytes2 h)
    | .relayFrame k bs => down k bs
    | _ => none) ∧
  (∀ t h d q, arrivesAs (.mark t h d q) = some (.upstream, markFrame t h d q)) ∧
  (∀ e n f a t c, arrivesAs (.play e n f a t c) = some (.upstream, playFrame e n f a t c)) ∧
  (∀ e d a t, arrivesAs (.mute e d a t) = some (.upstream, muteFrame e d a t)) ∧
  (∀ p, arrivesAs (.restart p) = some (.upstream, restartFrame p)) ∧
  (∀ p subject params, askFrame p subject params = ⟨0x24, p :: subject :: params⟩) ∧
  (∀ (port : Port) (closed : Bool) (bytes : List Byte),
    receive port closed bytes = .badFrame port ↔
      ¬(closed = true ∧ ∃ f : Frame, f.payload.length ≤ 240 ∧ bytes = f.wire)) ∧
  (∀ (port : Port) (f : Frame), f.payload.length ≤ 240 → receive port true f.wire = Frame.read port f) ∧
  (∀ (c : Instr) (port : Port) (f : Frame), c.wf = true → arrivesAs c = some (port, f) →
    receive port true f.wire = c)

/-! ### Frames and their owners -/

/-- A performance frame (PLAY, MUTE, the four SETs, the two FLUSHes) is counted, with all that the count brings at the
leak counter, then reaches its owner when its ensemble address is heard, and then always goes downstream (this order
is the model's choice, log entries 17 and 34); a management frame but a RESTART (BANKSWAP, LOAD_OPEN,
LOAD_DATA, COMMIT, the four CLEARs, HALT, RESUME) reaches its owner and stops when it carries the node's own
position, reaches it and goes on when it carries 255, and only goes on otherwise (R123, R125). -/
def Obligations.FramesReachTheirOwners : Prop :=
  ∀ (s : State), s.Awake →
    let heard := s.countGood .upstream
    (∀ c e f owner, performanceParts c = some (e, f, owner) →
      (s.HearsEnsemble e → exec c s = .next ((owner heard).forwardCopy f false)) ∧
      (¬s.HearsEnsemble e → exec c s = .next (heard.forwardCopy f false))) ∧
    (∀ c p f owner, managementParts c = some (p, f, owner) →
      (s.Owns p → exec c s = .next (owner heard)) ∧
      (p = 255 → exec c s = .next ((owner heard).forwardCopy f false)) ∧
      (p ≠ 255 → p ≠ s.liu.position → exec c s = .next (heard.forwardCopy f false)))

/-- An ASK addressed to the node is answered at its arrival, from the state after the frame has been counted, leak
counter and end of LINK_ERRORS included (log entry 34, the model's choice; R133 orders the good-frame counter), with
the position, the subject as asked and the content; with 8 answers waiting it is discarded unanswered and counted
(R131, R168, R178). One of the node's own position stops here. The contents are the next statement's. -/
def Obligations.AsksAreAnsweredAtTheirArrival : Prop :=
  ∀ (c : Instr) (p subject : Byte) (params : List Byte) (content : State → List Byte) (s : State),
    askParts c = some (p, subject, params, content) → s.Awake →
    let heard := s.countGood .upstream
    let queued : State :=
      { heard with
        liu :=
          { heard.liu with
            answer := heard.liu.answer ++ [⟨0x40, heard.liu.position :: subject :: content heard⟩] } }
    let unanswered : State :=
      { heard with
        liu :=
          { heard.liu with
            counters := { heard.liu.counters with unansweredAsks := heard.liu.counters.unansweredAsks + 1 } } }
    let answered := if heard.liu.answer.length < 8 then queued.kickReturn else unanswered
    (s.Owns p → exec c s = .next answered) ∧
    (p = 255 → exec c s = .next (answered.forwardCopy (askFrame p subject params) false)) ∧
    (p ≠ 255 → p ≠ s.liu.position →
      exec c s = .next (heard.forwardCopy (askFrame p subject params) false))

/-- The contents of the answers, byte for byte, and the stored items that they and the digests are made of. Multi-byte
fields are sent most significant byte first; the codes of the enumerations are those of the formats chapter. STATUS,
FAULTS (with a fault record's bytes), COUNTERS, STRIKER, DAMPERS, ROTOR, CLOCK, LINK, DIGESTS and TABLE have the layouts
given there: a margin of none is 0x80000000, a busy-until that is lapsed or reached is now (R63), a striker above 23 is
sent alone, and a TABLE answer carries the stored items of the bank selected from the start index on, as many as asked,
at least one, at most 16 and at most 11 striker records, as far as the table has them. A digest is the CRC-16, started
at 0xFFFF with the polynomial 0x1021, of all stored items of its tables in their order, one run: the 24 striker
records, the 4 damper records, the node record and the 16 supervision items; or a bank's 128 note entries, 512 curve
items and 3 articulation items (R58, R82, R118, R167, R169, R170, R177, R178). The unnamed bits of a record's flags,
and the bit "active" of an event, as 0 are the model's choice (log entry 37), and the bytes after the kind of an empty
first-fault record are free (log entry 30). -/
def Obligations.AnswerContentsFollowTheirFormats : Prop :=
  let byte (n : Nat) : Byte := BitVec.ofNat 8 n
  let two (n : Nat) : List Byte := bytes2 (BitVec.ofNat 16 n)
  let three (n : Nat) : List Byte := [byte (n / 65536), byte (n / 256), byte n]
  let bit (i : Nat) (b : Bool) : Nat := if b = true then 2 ^ i else 0
  (∀ w : Half, bytes2 w = [byte (w.toNat / 256), byte w.toNat]) ∧
  (∀ w : ShowTime,
    bytes4 w = [byte (w.toNat / 16777216), byte (w.toNat / 65536), byte (w.toNat / 256), byte w.toNat]) ∧
  [Mode.idle, .config, .run, .safe, .lockedOut].map Mode.code = [0, 1, 2, 3, 4] ∧
  [SyncState.unlocked, .acquiring, .locked, .holdover].map SyncState.code = [0, 1, 2, 3] ∧
  [Quality.none, .coarse, .fine].map Quality.code = [0, 1, 2] ∧
  [Band.normal, .low, .cut].map Band.code = [0, 1, 2] ∧
  [ResetCause.power, .line, .link].map ResetCause.code = [0, 1, 2] ∧
  [BankName.a, .b].map BankName.code = [0, 1] ∧
  [DamperState.engaged, .releasing, .released, .engaging].map DamperState.code = [0, 1, 2, 3] ∧
  [TableId.striker, .damper, .node, .supervision, .note, .curve, .articulation].map TableId.code
    = [0, 1, 2, 3, 4, 5, 6] ∧
  [TableId.striker, .damper, .node, .supervision, .note, .curve, .articulation].map TableId.itemSize
    = [20, 7, 21, 1, 6, 2, 2] ∧
  [TableId.striker, .damper, .node, .supervision, .note, .curve, .articulation].map TableId.count
    = [24, 4, 1, 16, 128, 512, 3] ∧
  (∀ t : TableId, readTable t.code = some t) ∧ (∀ b : Byte, 6 < b.toNat → readTable b = none) ∧
  [FaultKind.noImpact, .offTime, .driverFault, .supplyLow, .supplyCut, .clockWindow, .clockLost, .linkErrors,
    .downstreamLost, .chainTooLong, .scheduleFull, .returnOverflow, .loadError, .bankMismatch, .commitMismatch,
    .configTimeout].map FaultKind.item = List.finRange 16 ∧
  (∀ r : StrikerRecord,
    r.bytes
      = byte (bit 0 r.enabled + bit 1 r.sense + bit 2 r.adapt)
          :: (two r.fHard ++ two r.fSoft ++ two r.wMin ++ two r.wMax ++ two r.recovery ++ two r.hDerate
            ++ two r.hCut ++ [byte r.cooling] ++ two r.impactWindow ++ bytes2 (BitVec.ofInt 16 r.trimSeed))) ∧
  (∀ r : DamperRecord,
    r.bytes = byte (bit 0 r.enabled) :: (two r.releaseTravel ++ two r.engageTravel ++ two r.chokeHold)) ∧
  (∀ r : NodeRecord,
    r.bytes
      = [r.ensemble, r.group1.getD 0xFF, r.group2.getD 0xFF, r.group3.getD 0xFF,
          byte
            (bit 0 r.compensation + bit 1 r.chainEnd + bit 2 r.notices + bit 3 r.rotorEnabled
              + bit 4 r.indexEnabled)]
          ++ two r.markPeriod ++ three r.holdoverLimit ++ two r.setupMargin ++ two r.lateTolerance
          ++ [byte r.lowThreshold, byte r.cutThreshold, byte r.hysteresis, byte r.filterTime]
          ++ two r.stepsPerRev ++ [byte r.rampStep]) ∧
  (∀ r : SupervisionItem,
    r.bytes
      = [byte
          ((match r.reaction with | .warn => 0 | .hold => 1 | .recover => 2 | .halt => 3) + bit 7 r.notice)]) ∧
  (∀ r : NoteEntry,
    r.bytes
      = [byte (bit 0 r.enabled), byte r.primary.val,
          (match r.alternate with | none => 0xFF | some n => byte n.val), byte r.curve.val,
          BitVec.ofInt 8 r.offset, (match r.choke with | none => 0xFF | some d => byte d.val)]) ∧
  (∀ r : ArticulationItem,
    r.bytes = [(match r.curve with | none => 0xFF | some c => byte c.val), BitVec.ofInt 8 r.offset]) ∧
  (∀ r : FaultRecord,
    let subject : Byte :=
      match r.pair with
      | .noImpact n | .offTime n => byte n.val
      | .driverFault g => byte g.val
      | .linkErrors .upstream => 0
      | .linkErrors .downstream => 1
      | .loadError t => t.code
      | _ => 0xFF
    let condition : Bool :=
      match r.pair with
      | .driverFault _ | .supplyLow | .supplyCut | .linkErrors _ | .downstreamLost | .chainTooLong => true
      | _ => false
    r.bytes
      = byte r.pair.kind.item.val :: subject :: byte (bit 0 r.active + bit 1 condition + bit 2 r.clockNotLocked)
          :: (bytes4 r.firstSeen ++ bytes4 r.lastSeen ++ two r.occurrences)) ∧
  (∀ (t : Tbs) (b : Bank),
    t.items b .striker = (List.finRange 24).map (fun n => t.strikers[n].bytes) ∧
    t.items b .damper = (List.finRange 4).map (fun n => t.dampers[n].bytes) ∧
    t.items b .node = [t.node.bytes] ∧
    t.items b .supervision = (List.finRange 16).map (fun n => t.supervision[n].bytes) ∧
    t.items b .note = (List.finRange 128).map (fun n => b.notes[n].bytes) ∧
    t.items b .curve = (List.finRange 512).map (fun n => two b.curves[n]) ∧
    t.items b .articulation = (List.finRange 3).map (fun n => b.articulations[n].bytes) ∧
    t.configDigest
      = crc16 (t.items b .striker ++ t.items b .damper ++ t.items b .node ++ t.items b .supervision).flatten ∧
    b.digest = crc16 (t.items b .note ++ t.items b .curve ++ t.items b .articulation).flatten) ∧
  crc16 [] = 0xFFFF ∧
  (∀ (bs : List Byte) (b : Byte),
    crc16 (bs ++ [b])
      = (List.range 8).foldl (fun (r : Half) (_ : Nat) => if r.msb = true then (r <<< 1) ^^^ 0x1021 else r <<< 1)
          (crc16 bs ^^^ (BitVec.ofNat 16 (256 * b.toNat)))) ∧
  (∀ s : State,
    s.statusContent
      = [s.mdc.mode.code, s.scu.sync.code, s.liu.position, s.tbs.playBank.code]
          ++ (match s.tbs.pendingSwap with | none => [0, 0, 0, 0, 0] | some t => 1 :: bytes4 t)
          ++ [s.sup.band.code, s.mdc.resetCause.code] ++ two s.sch.entries.length ++ [byte s.svu.faults.length]
          ++ (match s.tbs.pointer with
              | none => [0, 0, 0, 0, 0]
              | some p => 1 :: p.table.code :: (two p.next ++ [p.sequence])) ∧
    (∀ r, s.svu.first = some r → s.faultsContent
      = byte s.svu.faults.length
          :: (s.svu.faults.flatMap FaultRecord.bytes ++ r.bytes ++ [byte s.svu.overflow])) ∧
    (s.svu.first = none → ∃ free : List Byte, free.length = 12 ∧ s.faultsContent
      = byte s.svu.faults.length
          :: (s.svu.faults.flatMap FaultRecord.bytes ++ 0xFF :: free ++ [byte s.svu.overflow])) ∧
    (let margin (m : Option Int) : Counter := match m with | none => 0x80000000 | some x => BitVec.ofInt 32 x
     s.countersContent
      = [s.sch.accepted, s.sch.started, s.sch.dropped.late, s.sch.dropped.busy, s.sch.dropped.outOfService,
          s.sch.dropped.hot, s.sch.dropped.noSupply, s.sch.dropped.quieted, s.sch.flushed,
          s.acu.refusals.notPlaying, s.acu.refusals.noClock, s.acu.refusals.unmapped, s.acu.refusals.silent,
          s.acu.refusals.outOfService, s.acu.refusals.tooEarly, s.acu.refusals.late, s.acu.refusals.busy,
          s.acu.refusals.full, s.sch.damperAccepted, s.sch.damperPerformed, s.sch.damperRedundant,
          s.sch.damperDropped, s.sch.damperFlushed, margin s.acu.margins.minimum, margin s.acu.margins.maximum,
          margin s.acu.margins.last, s.stc.stray, s.tbs.swapCancellations, s.tbs.loadDiscards,
          s.mdc.resumeRefused].flatMap bytes4
          ++ two s.sup.dips
          ++ [s.liu.counters.upGood, s.liu.counters.upBad, s.liu.counters.downGood, s.liu.counters.downBad,
              s.liu.counters.unknownKind, s.liu.counters.malformed, s.liu.counters.forwardDiscards,
              s.liu.counters.relayDiscards, s.liu.counters.noticeDiscards,
              s.liu.counters.unansweredAsks].flatMap bytes4) ∧
    (∀ n : Byte, 24 ≤ n.toNat → s.strikerContent n = [n]) ∧
    (∀ n : Fin 24,
      let r := s.strikerRecord n
      let c := s.channel n
      let code : Byte :=
        if r.enabled = false then 0
        else if c.drive ≠ none then 2
        else if c.marks.noImpact = true ∨ c.marks.offTime = true ∨ c.marks.driverFault = true then 4
        else if c.suspended = true then 5
        else if c.recoveryEnd ≠ none then 3
        else 1
      let busy : ShowTime :=
        match c.busyUntil with
        | none => s.now
        | some t => if 0 < signedDiff t s.now then t else s.now
      s.strikerContent (byte n.val)
        = byte n.val :: code ::
            (two c.heat ++ bytes2 (BitVec.ofInt 16 c.trim) ++ bytes4 busy ++ [byte c.missRun, byte c.outlierRun])) ∧
    s.dampersContent
      = (List.finRange 4).flatMap
          (fun d => [(s.damper d).state.code, if (s.damper d).hold = none then 0 else 1]) ∧
    s.rotorContent
      = two s.rot.target ++ two s.rot.current ++ two s.rot.position ++ two s.rot.lastIndexError
          ++ two s.rot.indexErrors ∧
    s.clockContent
      = bytes4 s.now ++ [byte s.scu.confidence, BitVec.ofInt 8 s.scu.slew] ++ three s.scu.lastPathDelay
          ++ [s.scu.qualityIn.code] ∧
    s.linkContent
      = [byte s.liu.leakUp, byte s.liu.leakDown, s.liu.position] ++ three s.pdu.average
          ++ [byte s.pdu.samples, s.pdu.quality.code] ∧
    s.digestsContent = bytes2 s.tbs.configDigest ++ bytes2 s.tbs.bankA.digest ++ bytes2 s.tbs.bankB.digest ∧
    (∀ (id bank : Byte) (start : Half) (count : Byte),
      (readTable id = none → s.tableContent id bank start count = id :: bank :: (bytes2 start ++ [0])) ∧
      (∀ t, readTable id = some t →
        let b : Bank :=
          match s.tbs.playBank with
          | .a => if bank = 0 then s.tbs.bankA else s.tbs.bankB
          | .b => if bank = 0 then s.tbs.bankB else s.tbs.bankA
        let asked := min (if t = .striker then 11 else 16) (max 1 count.toNat)
        let sent := ((s.tbs.items b t).drop start.toNat).take asked
        sent.length = min asked (t.count - start.toNat) ∧
        s.tableContent id bank start count = id :: bank :: (bytes2 start ++ byte sent.length :: sent.flatten))))

/-! ### Controls and flushes -/

/-- A heard SET MASTER_GAIN, SET QUIET_CEILING, SET ROTOR_RATE or SET ROTOR_ALIGN sets its value and nothing else
at its owner: the ceiling at most 2047, the rate at most 1,500, both rotor values only with the rotor enabled in
RUN with the band above CUT, and an align only after now (R21, R22, R92, R96). -/
def Obligations.ControlsSetTheirValues : Prop :=
  ∀ (s : State) (e : Byte), s.Awake → s.HearsEnsemble e →
    let heard := s.countGood .upstream
    let rotorTakes := s.node.rotorEnabled = true ∧ s.mdc.mode = .run ∧ s.sup.band ≠ .cut
    (∀ g : Byte, exec (.setMasterGain e g) s = .next
      ({ heard with acu := { heard.acu with gain := g } }.forwardCopy ⟨0x12, [e, 0x00, g]⟩ false)) ∧
    (∀ c : Half, exec (.setQuietCeiling e c) s = .next
      ({ heard with
          acu := { heard.acu with ceiling := if 2047 < c.toNat then 2047 else c.toNat } }.forwardCopy
        ⟨0x12, e :: 0x01 :: bytes2 c⟩ false)) ∧
    (∀ r : Half,
      (rotorTakes → exec (.setRotorRate e r) s = .next
        ({ heard with
            rot := { heard.rot with target := if 1500 < r.toNat then 1500 else r.toNat } }.forwardCopy
          ⟨0x12, e :: 0x02 :: bytes2 r⟩ false)) ∧
      (¬rotorTakes → exec (.setRotorRate e r) s = .next
        (heard.forwardCopy ⟨0x12, e :: 0x02 :: bytes2 r⟩ false))) ∧
    (∀ t : ShowTime,
      (rotorTakes → 0 < signedDiff t s.now → exec (.setRotorAlign e t) s = .next
        ({ heard with rot := { heard.rot with align := some t } }.forwardCopy
          ⟨0x12, e :: 0x03 :: bytes4 t⟩ false)) ∧
      (¬rotorTakes ∨ signedDiff t s.now ≤ 0 → exec (.setRotorAlign e t) s = .next
        (heard.forwardCopy ⟨0x12, e :: 0x03 :: bytes4 t⟩ false)))

/-- A heard FLUSH removes the entries it selects, all of them or those whose target time is not before T, keeps the
others in their order and counts each removed entry as flushed, strikes and dampers apart (R49). A flush of the
whole schedule for another reason removes and counts every entry in the same way (R50, R51). -/
def Obligations.FlushRemovesWhatItSelects : Prop :=
  (∀ s : State, s.flushSchedule =
    { s with
      sch :=
        { s.sch with
          entries := []
          flushed := s.sch.flushed + BitVec.ofNat 32 (s.sch.entries.countP Entry.isStrike)
          damperFlushed :=
            s.sch.damperFlushed
              + BitVec.ofNat 32 (s.sch.entries.countP fun (x : Entry) => !x.isStrike) } }) ∧
  ∀ (s : State) (e : Byte), s.Awake → s.HearsEnsemble e →
    let heard := s.countGood .upstream
    exec (.flushAll e) s = .next
      ({ heard with
          sch :=
            { heard.sch with
              entries := []
              flushed := heard.sch.flushed + BitVec.ofNat 32 (s.sch.entries.countP Entry.isStrike)
              damperFlushed :=
                heard.sch.damperFlushed
                  + BitVec.ofNat 32 (s.sch.entries.countP fun (x : Entry) => !x.isStrike) } }.forwardCopy
        ⟨0x13, [e, 0x00]⟩ false) ∧
    (∀ t : ShowTime,
      let kept := s.sch.entries.filter fun (x : Entry) => decide (signedDiff x.target t < 0)
      let gone := s.sch.entries.filter fun (x : Entry) => decide (0 ≤ signedDiff x.target t)
      exec (.flushFromTime e t) s = .next
        ({ heard with
            sch :=
              { heard.sch with
                entries := kept
                flushed := heard.sch.flushed + BitVec.ofNat 32 (gone.countP Entry.isStrike)
                damperFlushed :=
                  heard.sch.damperFlushed + BitVec.ofNat 32 (gone.countP fun (x : Entry) => !x.isStrike) } }.forwardCopy
          ⟨0x13, e :: 0x01 :: bytes4 t⟩ false))

/-! ### Requests -/

/-- A heard PLAY that fails a check before that of the free places is refused with one count and nothing else:
NOT_PLAYING outside RUN, then NO_CLOCK while the clock is UNLOCKED or ACQUIRING, then UNMAPPED for a note code above
127 or a disabled entry, then SILENT for a provisional width of 0, then the reason of the candidate tried last. A
heard MUTE fails the first two in the same way, then OUT_OF_SERVICE when no selected damper is enabled (R2, R17,
R18, R20, R28, R34, R36). -/
def Obligations.RequestsAreRefusedByTheFirstFailingCheck : Prop :=
  ∀ (s : State) (e note force art : Byte) (target : ShowTime) (choke : Option Half) (selector action : Byte),
    s.Awake → s.HearsEnsemble e →
    let heard := s.countGood .upstream
    let refused (r : RefusalCounters) : State := { heard with acu := { heard.acu with refusals := r } }
    let was := heard.acu.refusals
    let play := exec (.play e note force art target choke) s
    let mute := exec (.mute e selector action target) s
    let playFrame := playFrame e note force art target choke
    let muteFrame := muteFrame e selector action target
    let bank := s.tbs.playTables
    (s.mdc.mode ≠ .run →
      play = .next ((refused { was with notPlaying := was.notPlaying + 1 }).forwardCopy playFrame false) ∧
      mute = .next ((refused { was with notPlaying := was.notPlaying + 1 }).forwardCopy muteFrame false)) ∧
    (s.mdc.mode = .run → s.scu.sync = .unlocked ∨ s.scu.sync = .acquiring →
      play = .next ((refused { was with noClock := was.noClock + 1 }).forwardCopy playFrame false) ∧
      mute = .next ((refused { was with noClock := was.noClock + 1 }).forwardCopy muteFrame false)) ∧
    (s.mdc.mode = .run → s.scu.sync = .locked ∨ s.scu.sync = .holdover →
      ((∀ h : note.toNat < 128, bank.notes[note.toNat].enabled = false) →
        play = .next ((refused { was with unmapped := was.unmapped + 1 }).forwardCopy playFrame false)) ∧
      (∀ h : note.toNat < 128, bank.notes[note.toNat].enabled = true →
        let n := bank.notes[note.toNat]
        let width := bank.curveWidth (resolveCurve bank n art) (resolveForce bank n force art)
        let f := resolveForce bank n force art
        let failing := fun (reason : RefuseReason) => heard.chooseStriker n f target = .error reason
        let counted (r : RefusalCounters) : Prop := play = .next ((refused r).forwardCopy playFrame false)
        (width * (s.acu.gain.toNat + 1) / 256 = 0 → counted { was with silent := was.silent + 1 }) ∧
        (width * (s.acu.gain.toNat + 1) / 256 ≠ 0 →
          (failing .outOfService → counted { was with outOfService := was.outOfService + 1 }) ∧
          (failing .tooEarly → counted { was with tooEarly := was.tooEarly + 1 }) ∧
          (failing .late → counted { was with late := was.late + 1 }) ∧
          (failing .busy → counted { was with busy := was.busy + 1 }) ∧
          (∀ reason : RefuseReason, failing reason →
            reason = .outOfService ∨ reason = .tooEarly ∨ reason = .late ∨ reason = .busy))) ∧
      ((∀ d : Fin 4, selector.toNat = d.val ∨ 4 ≤ selector.toNat → (s.damperRecord d).enabled = false) →
        mute = .next ((refused { was with outOfService := was.outOfService + 1 }).forwardCopy muteFrame false)))

/-- The candidate checks of a striker, in their order: OUT_OF_SERVICE for a striker that is disabled, held or
suspended and does not drive; TOO_EARLY beyond the horizon; LATE beyond the tolerance; BUSY when its window, at the
drive start after a late adjustment, meets a pending one or lies before busy-until; otherwise the drive start, the
margin and the flight. The alternate is tried only when the primary fails, and the last one tried gives the reason
(R23 to R28). A channel is held while it has any of its three hold marks (R58). -/
def Obligations.CandidatesAreTriedInOrder : Prop :=
  (∀ m : HoldMarks, m.any = (m.noImpact || m.offTime || m.driverFault)) ∧
  ∀ (s : State) (n : Fin 24) (force : Nat) (target : ShowTime),
    let r := s.strikerRecord n
    let c := s.channel n
    let soft := if r.fSoft < r.fHard then r.fHard else r.fSoft
    let raw : Int := (r.fHard : Int) + ((soft - r.fHard) * (63 - force) + 31) / 62 + c.trim
    let flight : Nat := if raw < 0 then 0 else raw.toNat
    let d := target - BitVec.ofNat 32 flight
    let margin := signedDiff d s.now
    let setup : Int := s.node.setupMargin
    let start := if setup ≤ margin then d else s.now + BitVec.ofNat 32 s.node.setupMargin
    let length := r.wMax + r.recovery
    let out := r.enabled = false ∨ (c.drive = none ∧ (c.marks.any = true ∨ c.suspended = true))
    let late := margin < setup ∧ (s.node.lateTolerance : Int) < setup - margin
    let busy :=
      (∃ x ∈ s.sch.entries, ∃ w e, x.work = .strike n w e ∧ length ≠ 0 ∧
        signedDiff start (x.action + BitVec.ofNat 32 length) < 0 ∧
        signedDiff x.action (start + BitVec.ofNat 32 length) < 0) ∨
      (∃ t, c.busyUntil = some t ∧ signedDiff start t < 0)
    (out → s.tryStriker n force target = .error .outOfService) ∧
    (¬out → 4194304 < margin → s.tryStriker n force target = .error .tooEarly) ∧
    (¬out → margin ≤ 4194304 → late → s.tryStriker n force target = .error .late) ∧
    (¬out → margin ≤ 4194304 → ¬late → busy → s.tryStriker n force target = .error .busy) ∧
    (¬out → margin ≤ 4194304 → ¬late → ¬busy →
      s.tryStriker n force target = .ok { striker := n, start := start, margin := margin, flight := flight }) ∧
    (∀ e : NoteEntry,
      (∀ k, s.tryStriker e.primary force target = .ok k → s.chooseStriker e force target = .ok k) ∧
      (∀ k, s.tryStriker e.primary force target = .error k → e.alternate = none →
        s.chooseStriker e force target = .error k) ∧
      (∀ k a, s.tryStriker e.primary force target = .error k → e.alternate = some a →
        s.chooseStriker e force target = s.tryStriker a force target))

/-- A heard PLAY that passes every check is inserted: the strike entry, then its choke entry if one is formed, each
in its place; the strike and the choke are counted as accepted and the margin is taken into the statistics; entries
due at once are handed over by a DUE. With too few free places the PLAY is refused FULL and SCHEDULE_FULL is reported
(R8, R20, R29 to R32, R41). A new entry stands after every pending entry that is not after it, those of equal action
time included, and before every one that is after it (R39): said for a schedule in order, within the horizon. -/
def Obligations.AcceptedPlayIsInserted : Prop :=
  (∀ (s : State) (y : Entry),
    s.sch.entries.Pairwise (fun (a b : Entry) => signedDiff a.action b.action ≤ 0) →
    (∀ x ∈ y :: s.sch.entries, 0 ≤ signedDiff x.action s.now ∧ signedDiff x.action s.now ≤ 4194304) →
    insertEntry y s.sch.entries
      = s.sch.entries.filter (fun (x : Entry) => decide (signedDiff x.action y.action ≤ 0))
        ++ y :: s.sch.entries.filter (fun (x : Entry) => decide (0 < signedDiff x.action y.action))) ∧
  (∀ (s : State) (e note force art : Byte) (target : ShowTime) (choke : Option Half) (k : Candidacy)
      (h : note.toNat < 128),
    s.Awake → s.HearsEnsemble e → s.mdc.mode = .run → s.scu.sync = .locked ∨ s.scu.sync = .holdover →
    let heard := s.countGood .upstream
    let bank := s.tbs.playTables
    let n := bank.notes[note.toNat]
    let f := resolveForce bank n force art
    let w1 := bank.curveWidth (resolveCurve bank n art) f * (s.acu.gain.toNat + 1) / 256
    n.enabled = true → w1 ≠ 0 → heard.chooseStriker n f target = .ok k →
    let strike : Entry :=
      { action := k.start, target := target
        work := .strike k.striker w1 (k.start + BitVec.ofNat 32 k.flight) }
    let chokes : List Entry := (s.chokeEntry n k.start target choke).toList
    let margins := s.acu.margins
    let accepted : State :=
      { heard with
        sch :=
          { heard.sch with
            entries := chokes.foldl (fun l x => insertEntry x l) (insertEntry strike s.sch.entries)
            accepted := heard.sch.accepted + 1
            damperAccepted := heard.sch.damperAccepted + BitVec.ofNat 32 chokes.length }
        acu :=
          { heard.acu with
            margins :=
              { minimum := some (match margins.minimum with | none => k.margin | some m => min k.margin m)
                maximum := some (match margins.maximum with | none => k.margin | some m => max k.margin m)
                last := some k.margin } } }
    (s.sch.entries.length + 1 + chokes.length ≤ 256 →
      exec (.play e note force art target choke) s
        = .next ((accepted.after .due).forwardCopy (playFrame e note force art target choke) false)) ∧
    (256 < s.sch.entries.length + 1 + chokes.length →
      exec (.play e note force art target choke) s
        = .next
          (({ heard with
              acu :=
                { heard.acu with
                  refusals :=
                    { heard.acu.refusals with full := heard.acu.refusals.full + 1 } } }.report
              .scheduleFull).forwardCopy (playFrame e note force art target choke) false)))

/-- How a PLAY reads the play bank, which is the bank that the selector names: force code 0 counts as 1 and a code
above 63 as 63; the note's offset is added and the sum clamped to 1 to 63; an articulation code 1 to 3 adds its
item's offset and clamps again, any other is plain; the curve is the item's override, else the note's; the width is
the curve table's item 64 × curve + force (R1, R6 to R8, R19). Its choke entry: none without a choke duration,
without a choke damper or with its record disabled; otherwise an engagement with the choke flag, aimed at the target
plus the duration, its action time clamped to the span from the drive start to the horizon (R4, R29). -/
def Obligations.PlaysAreResolvedThroughThePlayBank : Prop :=
  (∀ s : State, s.tbs.playTables = (match s.tbs.playBank with | .a => s.tbs.bankA | .b => s.tbs.bankB)) ∧
  (∀ (b : Bank) (n : NoteEntry) (force art : Byte),
    let clamped (x : Int) : Int := if x < 1 then 1 else if 63 < x then 63 else x
    let f0 : Int := if force.toNat = 0 then 1 else if 63 < force.toNat then 63 else force.toNat
    let f1 := clamped (f0 + n.offset)
    let item : Option ArticulationItem :=
      if art = 1 then some b.articulations[0]
      else if art = 2 then some b.articulations[1]
      else if art = 3 then some b.articulations[2]
      else none
    ((resolveForce b n force art : Nat) : Int)
        = (match item with | none => f1 | some a => clamped (f1 + a.offset)) ∧
      resolveCurve b n art
        = (match item with
           | none => n.curve
           | some a => (match a.curve with | none => n.curve | some c => c))) ∧
  (∀ (b : Bank) (curve : Fin 8) (force : Nat) (i : Fin 512), i.val = curve.val * 64 + force →
    b.curveWidth curve force = b.curves[i]) ∧
  (∀ (s : State) (n : NoteEntry) (start target : ShowTime) (choke : Option Half),
    (choke = none → s.chokeEntry n start target choke = none) ∧
    (n.choke = none → s.chokeEntry n start target choke = none) ∧
    (∀ d, n.choke = some d → (s.damperRecord d).enabled = false →
      s.chokeEntry n start target choke = none) ∧
    (∀ d c, n.choke = some d → (s.damperRecord d).enabled = true → choke = some c →
      let goal := target + BitVec.ofNat 32 c.toNat
      let a := goal - BitVec.ofNat 32 (s.damperRecord d).engageTravel
      s.chokeEntry n start target choke = some
        { action :=
            if signedDiff a start < 0 then start
            else if 4194304 < signedDiff a s.now then s.now + BitVec.ofNat 32 4194304
            else a
          target := goal
          work := .damper d .engage true }))

/-- A heard MUTE in RUN with the clock locked takes the enabled dampers that its selector names, one of them or, for 4
to 255, all, in damper order. Each is judged by the timing checks of a PLAY at the target less its travel time: on
time at that instant, played late at now plus the setup margin, otherwise TOO_EARLY or LATE; the first damper that
fails gives the reason and nothing is inserted. If all pass, their entries are inserted in damper order, counted as
accepted, and those due at once handed over by a DUE; without room for all of them the MUTE is refused FULL and
SCHEDULE_FULL is reported (R25, R26, R30, R34, R35, R41). -/
def Obligations.MutesInsertTheirDampers : Prop :=
  ∀ (s : State) (e selector action : Byte) (target : ShowTime),
    s.Awake → s.HearsEnsemble e → s.mdc.mode = .run → s.scu.sync = .locked ∨ s.scu.sync = .holdover →
    let heard := s.countGood .upstream
    let chosen : List (Fin 4) :=
      [0, 1, 2, 3].filter fun d =>
        decide ((selector.toNat = d.val ∨ 4 ≤ selector.toNat) ∧ (s.damperRecord d).enabled = true)
    let a : DamperAction := if action = 0x01 then .release else .engage
    let at_ (d : Fin 4) : ShowTime :=
      target
        - BitVec.ofNat 32
            (if action = 0x01 then (s.damperRecord d).releaseTravel else (s.damperRecord d).engageTravel)
    let margin (d : Fin 4) : Int := signedDiff (at_ d) s.now
    let setup : Int := s.node.setupMargin
    let early (d : Fin 4) : Bool := decide (4194304 < margin d)
    let late (d : Fin 4) : Bool := decide (margin d < setup ∧ (s.node.lateTolerance : Int) < setup - margin d)
    let entry (d : Fin 4) : Entry :=
      { action := if setup ≤ margin d then at_ d else s.now + BitVec.ofNat 32 s.node.setupMargin
        target := target, work := .damper d a false }
    let inserted : State :=
      { heard with
        sch :=
          { heard.sch with
            entries := chosen.foldl (fun l d => insertEntry (entry d) l) s.sch.entries
            damperAccepted := heard.sch.damperAccepted + BitVec.ofNat 32 chosen.length } }
    let refused (c : RefusalCounters) : State := { heard with acu := { heard.acu with refusals := c } }
    let was := heard.acu.refusals
    let mute := exec (.mute e selector action target) s
    let frame := muteFrame e selector action target
    let failing := chosen.find? fun d => early d || late d
    chosen ≠ [] →
    (∀ d, failing = some d →
      (early d = true →
        mute = .next ((refused { was with tooEarly := was.tooEarly + 1 }).forwardCopy frame false)) ∧
      (early d = false → late d = true →
        mute = .next ((refused { was with late := was.late + 1 }).forwardCopy frame false))) ∧
    (failing = none → s.sch.entries.length + chosen.length ≤ 256 →
      mute = .next ((inserted.after .due).forwardCopy frame false)) ∧
    (failing = none → 256 < s.sch.entries.length + chosen.length →
      mute = .next
        (((refused { was with full := was.full + 1 }).report .scheduleFull).forwardCopy frame false))

/-! ### Time marks -/

/-- A MARK in UNLOCKED steps the show clock to its target and goes to ACQUIRING; in ACQUIRING an error of at most 2
raises the confidence, and at 8 with a trusted path delay the clock is LOCKED; a larger error steps (R102 to R104).
Every MARK is recorded, a quality of 1 as COARSE, of 2 as FINE and any other as NONE (R176). -/
def Obligations.MarkStepsAFreeClock : Prop :=
  (∀ q : Byte, readQuality q = if q = 1 then .coarse else if q = 2 then .fine else .none) ∧
  ∀ (s : State) (t : ShowTime) (h : Byte) (d : BitVec 24) (q : Byte), s.Awake →
    let target := if s.node.compensation then t + BitVec.ofNat 32 ((d.toNat + 8) / 16) else t
    let e := signedDiff target s.now
    let seen : Scu :=
      { s.scu with lastPathDelay := d.toNat, qualityIn := readQuality q, lastMark := some s.localTime }
    let more := if s.scu.confidence + 1 < 8 then s.scu.confidence + 1 else 8
    (s.scu.sync = .unlocked → ∃ u, exec (.mark t h d q) s = .next u ∧
      u.scu = { seen with now := target, sync := .acquiring, confidence := 0, slew := 0 }) ∧
    (s.scu.sync = .acquiring → -2 ≤ e ∧ e ≤ 2 → ∃ u, exec (.mark t h d q) s = .next u ∧
      u.scu =
        { seen with
          confidence := more
          sync :=
            if more = 8 ∧ (s.node.compensation = false ∨ q = 1 ∨ q = 2) then .locked else .acquiring }) ∧
    (s.scu.sync = .acquiring → e < -2 ∨ 2 < e → ∃ u, exec (.mark t h d q) s = .next u ∧
      u.scu = { seen with now := target, confidence := 0, slew := 0 })

/-- A MARK in LOCKED is a violation when its error exceeds 64 or it is early: confidence falls by 2, CLOCK_WINDOW is
reported, and at confidence 0 the clock falls to ACQUIRING without a step, and a pending bank swap takes effect
(R10); otherwise it is good, and its error sets or withdraws the slew correction, and no table, pointer or swap
changes. In HOLDOVER an error of at most 64 returns to LOCKED, a larger one steps in ACQUIRING (R105, R107); that
the holdover start is then none is the model's reading (log entry 13). -/
def Obligations.MarkDisciplinesALockedClock : Prop :=
  ∀ (s : State) (t : ShowTime) (h : Byte) (d : BitVec 24) (q : Byte), s.Awake →
    let target := if s.node.compensation then t + BitVec.ofNat 32 ((d.toNat + 8) / 16) else t
    let e := signedDiff target s.now
    let seen : Scu :=
      { s.scu with lastPathDelay := d.toNat, qualityIn := readQuality q, lastMark := some s.localTime }
    let more := if s.scu.confidence + 1 < 8 then s.scu.confidence + 1 else 8
    let near := -64 ≤ e ∧ e ≤ 64
    let early := ∃ l, s.scu.lastMark = some l ∧ s.localTime - l < 16 * (s.node.markPeriod / 2)
    let swapped : Tbs :=
      { s.tbs with
        playBank := (match s.tbs.playBank with | .a => .b | .b => .a)
        pendingSwap := none
        pointer :=
          (match s.tbs.pointer with
           | none => none
           | some o =>
             if o.table = .note ∨ o.table = .curve ∨ o.table = .articulation then none else some o) }
    (s.scu.sync = .locked → ¬near ∨ early → ∃ u, exec (.mark t h d q) s = .next u ∧
      u.scu =
        (if s.scu.confidence ≤ 2 then { seen with confidence := 0, slew := 0, sync := .acquiring }
         else { seen with confidence := s.scu.confidence - 2 }) ∧
      u.tbs = (if s.scu.confidence ≤ 2 ∧ s.tbs.pendingSwap ≠ none then swapped else s.tbs) ∧
      ((∃ x ∈ s.svu.faults, x.pair = .clockWindow) ∨ s.svu.faults.length < 7 →
        ∃ x ∈ u.svu.faults, x.pair = .clockWindow)) ∧
    (s.scu.sync = .locked → near → ¬early → ∃ u, exec (.mark t h d q) s = .next u ∧
      u.scu =
        (if -2 ≤ e ∧ e ≤ 2 then { seen with confidence := more, slew := 0 }
         else { seen with confidence := more, slew := e, slewCount := 0 }) ∧
      u.tbs = s.tbs) ∧
    (s.scu.sync = .holdover → near → ∃ u, exec (.mark t h d q) s = .next u ∧
      u.scu =
        { seen with sync := .locked, confidence := more, slew := e, slewCount := 0, holdoverStart := none } ∧
      u.tbs = s.tbs) ∧
    (s.scu.sync = .holdover → ¬near → ∃ u, exec (.mark t h d q) s = .next u ∧
      u.scu =
        { seen with now := target, sync := .acquiring, confidence := 0, slew := 0, holdoverStart := none })

/-- What a step of the show clock by k does to every block. A step of 0 only clears the slew correction. Any other
sets the clock; moves the running drives, recoveries, travels, holds and the rotor's next output change by k; lapses
the busy-untils that the clock had reached before or reaches now, and moves no other; flushes and counts the whole
schedule beyond 2^22, hands over the overdue entries forward, flushes and counts those beyond the horizon backward;
closes the impact windows whose end is passed, in striker order; and lets a pending align and a pending swap that are
reached take effect (R10, R47, R48, R63, R66, R76, R89, R94, R96, R108). This order is the model's choice (log entry
11), and so is that after a backward step what then lies more than 2^31 grains ahead, an align, a swap time or a
busy-until, counts as reached, though R96 has the step delay the align (log entry 33). A MARK in
UNLOCKED, one of error above 2 in ACQUIRING and one above 64 in HOLDOVER takes just this step, a pending swap in effect
on entering ACQUIRING, and then goes on as every MARK does (R103, R104, R107; the holdover start is log entry 13, the
order within the MARK log entry 10). -/
def Obligations.ClockStepsReachEveryBlock : Prop :=
  ∀ s : State, s.Awake →
    (s.stepClock 0 = { s with scu := { s.scu with slew := 0 } }) ∧
    (∀ k : Int, k ≠ 0 →
      let later (t : ShowTime) : ShowTime := t + BitVec.ofInt 32 k
      let moved : State :=
        { s with
          scu := { s.scu with now := later s.now, slew := 0 }
          stc :=
            { s.stc with
              channels := tabulate fun n =>
                let c := s.stc.channels[n]
                { c with
                  drive := c.drive.map fun d => { d with start := later d.start }
                  recoveryEnd := c.recoveryEnd.map later
                  busyUntil :=
                    match c.busyUntil with
                    | none => none
                    | some t =>
                      if signedDiff t s.now ≤ 0 ∨ signedDiff t (later s.now) ≤ 0 then none else some t } }
          dmc :=
            { dampers := tabulate fun d =>
                let v := s.dmc.dampers[d]
                { v with travelEnd := v.travelEnd.map later, hold := v.hold.map later } }
          rot :=
            { s.rot with cycle := s.rot.cycle.map fun c => { c with nextChange := later c.nextChange } } }
      let flushed (kept gone : List Entry) : State :=
        { moved with
          sch :=
            { moved.sch with
              entries := kept
              flushed := moved.sch.flushed + BitVec.ofNat 32 (gone.countP Entry.isStrike)
              damperFlushed :=
                moved.sch.damperFlushed + BitVec.ofNat 32 (gone.countP fun (x : Entry) => !x.isStrike) } }
      let pending := moved.sch.entries
      let scheduled : State :=
        if k < -4194304 ∨ 4194304 < k then flushed [] pending
        else if 0 < k then moved.after .due
        else
          flushed (pending.filter fun (x : Entry) => decide (signedDiff x.action (later s.now) ≤ 4194304))
            (pending.filter fun (x : Entry) => decide (4194304 < signedDiff x.action (later s.now)))
      let closed := (List.finRange 24).foldl (fun x n => x.after (.impactWindowEnd n)) scheduled
      s.stepClock k = (closed.after .alignTakesEffect).after .swapTimeReached) ∧
    (∀ (t : ShowTime) (h : Byte) (d : BitVec 24) (q : Byte),
      let target := if s.node.compensation then t + BitVec.ofNat 32 ((d.toNat + 8) / 16) else t
      let e := signedDiff target s.now
      let far := 253 < h.toNat
      let heard := s.countGood .upstream
      let placed : State :=
        { heard with
          liu := { heard.liu with position := if far then 255 else h + 1, chainTooLong := decide far } }
      let told : State :=
        if far ∧ s.liu.chainTooLong = false then placed.report .chainTooLong
        else if ¬far ∧ s.liu.chainTooLong = true then placed.reportEnd .chainTooLong
        else placed
      let clock (x : State) (y : Scu) : State := { x with scu := y }
      let seen : State :=
        clock told
          { s.scu with lastPathDelay := d.toNat, qualityIn := readQuality q, lastMark := some s.localTime }
      let swapping (x : State) : State :=
        if x.tbs.pendingSwap = none then x
        else
          { x with
            tbs :=
              { x.tbs with
                playBank := (match x.tbs.playBank with | .a => .b | .b => .a)
                pendingSwap := none
                pointer :=
                  (match x.tbs.pointer with
                   | none => none
                   | some o =>
                     if o.table = .note ∨ o.table = .curve ∨ o.table = .articulation then none
                     else some o) } }
      let dueNow := s.pdu.markCount = 63 ∧ s.pdu.outstanding = none ∧ s.node.chainEnd = false
      let goesOn (x : State) :=
        exec (.mark t h d q) s = .next
          ({ x with
              pdu :=
                { s.pdu with
                  markCount := (s.pdu.markCount + 1) % 64
                  probeDue := if dueNow then .afterMark else s.pdu.probeDue } }.forwardMark
            { showTime := t, hop := if far then 254 else h + 1, pathDelay := d.toNat
              quality := readQuality q, receivedAt := s.localTime, opensProbe := decide dueNow })
      let stepped (x : State) := x.stepClock e
      let restarted (x : State) : State := clock x { x.scu with confidence := 0, slew := 0 }
      (s.scu.sync = .unlocked →
        let y := restarted (stepped seen)
        goesOn (swapping (clock y { y.scu with sync := .acquiring }))) ∧
      (s.scu.sync = .acquiring → e < -2 ∨ 2 < e → goesOn (restarted (stepped seen))) ∧
      (s.scu.sync = .holdover → e < -64 ∨ 64 < e →
        goesOn
          (restarted
            (stepped
              (swapping (clock seen { seen.scu with sync := .acquiring, holdoverStart := none }))))))

/-- Every MARK gives the chain position from its hop count, starts or ends CHAIN_TOO_LONG, and is counted by the PDU
modulo 64; its copy, with the hop count it will carry, then joins the forward queue (R111, R116, R124). With fewer
than 4 copies waiting it stands after the MARKs and before every other copy. With 4 it displaces the last copy that is
not a MARK, which is counted as a discard and, if it was a RESTART for this node, begins its reset (R125; log entry 9);
among 4 MARKs it is itself discarded and counted, and a probe due with it is skipped (log entry 15, the model's
choice). An idle transmitter is at a frame boundary at once (R119, R126). The refusal counters, the gain, the ceiling
and the supply monitor are left as they were. -/
def Obligations.MarkTakesThePositionAndGoesOn : Prop :=
  (∀ (s : State) (t : ShowTime) (h : Byte) (d : BitVec 24) (q : Byte), s.Awake →
    let position : Byte := if h.toNat ≤ 253 then h + 1 else 255
    let dueNow := s.pdu.markCount = 63 ∧ s.pdu.outstanding = none ∧ s.node.chainEnd = false
    ∃ w : State,
      exec (.mark t h d q) s = .next
        (w.forwardMark
          { showTime := t, hop := if h.toNat ≤ 253 then h + 1 else 254, pathDelay := d.toNat
            quality := readQuality q, receivedAt := s.localTime, opensProbe := decide dueNow }) ∧
      w.liu.position = position ∧ (w.liu.chainTooLong = true ↔ 253 < h.toNat) ∧
      w.liu.forward = s.liu.forward ∧ w.liu.sendingDown = s.liu.sendingDown ∧
      w.pdu =
        { s.pdu with
          markCount := (s.pdu.markCount + 1) % 64
          probeDue := if dueNow then .afterMark else s.pdu.probeDue } ∧
      w.acu = s.acu ∧ w.sup = s.sup ∧ w.localTime = s.localTime ∧ w.pending = s.pending ∧ w.Awake) ∧
  (∀ (w : State) (m : WaitingMark), w.Awake →
    let waiting (q : List ForwardItem) : State := { w with liu := { w.liu with forward := q } }
    let discarding (x : State) : State :=
      { x with
        liu :=
          { x.liu with
            counters := { x.liu.counters with forwardDiscards := x.liu.counters.forwardDiscards + 1 } } }
    let placedIn (q : List ForwardItem) : List ForwardItem :=
      q.takeWhile ForwardItem.isMark ++ .mark m :: q.dropWhile ForwardItem.isMark
    let joined := waiting (placedIn w.liu.forward)
    (w.liu.forward.length < 4 →
      (w.liu.sendingDown ≠ none → w.forwardMark m = joined) ∧
      (w.liu.sendingDown = none → exec .downstreamFrameBoundary joined = .next (w.forwardMark m))) ∧
    (4 ≤ w.liu.forward.length →
      ((∀ i ∈ w.liu.forward, i.isMark = true) →
        w.forwardMark m =
          { discarding w with
            pdu := { w.pdu with probeDue := if m.opensProbe = true then .none else w.pdu.probeDue } }) ∧
      (∀ (front : List ForwardItem) (f : Frame) (r : Bool) (back : List ForwardItem),
        w.liu.forward = front ++ .copy f r :: back → (∀ i ∈ back, i.isMark = true) →
        let displaced := discarding (waiting (placedIn (front ++ back)))
        (r = false → w.liu.sendingDown ≠ none → w.forwardMark m = displaced) ∧
        (r = false → w.liu.sendingDown = none →
          exec .downstreamFrameBoundary displaced = .next (w.forwardMark m)) ∧
        (r = true → w.forwardMark m =
          { displaced.cutOff with
            resetting := some { cause := .link, endsAt := some (w.localTime + 10 * 16) } }))))

/-! ### Tables -/

/-- A LOAD_OPEN of the node's own position closes the pointer and then opens it, or leaves it closed: a table id
above 6 is counted as a discard; a table not writable in the mode or a start beyond its items is a LOAD_ERROR. The
tables 0 to 3 are writable in IDLE and CONFIG, the tables 4 to 6 in every mode but LOCKED_OUT (R164). -/
def Obligations.LoadOpenSetsThePointer : Prop :=
  (∀ (t : TableId) (m : Mode), t.writable m = true ↔
    (m = .idle ∨ m = .config ∨ ((m = .run ∨ m = .safe) ∧ (t = .note ∨ t = .curve ∨ t = .articulation)))) ∧
  ∀ (s : State) (p table : Byte) (start : Half), s.Awake → s.Owns p →
    let heard := s.countGood .upstream
    let pointing (x : Option LoadPointer) : State := { heard with tbs := { heard.tbs with pointer := x } }
    (6 < table.toNat → exec (.loadOpen p table start) s = .next
      { heard with tbs := { heard.tbs with pointer := none, loadDiscards := heard.tbs.loadDiscards + 1 } }) ∧
    (∀ t, readTable table = some t →
      (t.writable s.mdc.mode = false ∨ t.count ≤ start.toNat →
        exec (.loadOpen p table start) s = .next ((pointing none).report (.loadError t))) ∧
      (t.writable s.mdc.mode = true → start.toNat < t.count →
        exec (.loadOpen p table start) s = .next
          (pointing (some { table := t, next := start.toNat, sequence := 0 }))))

/-- A LOAD_DATA of the node's own position is judged by the first line that applies: with the pointer closed it is
counted as a discard; a wrong sequence number or bytes that are not 1 to 16 whole items are a LOAD_ERROR; otherwise
the items that fit are written in order, and past the table's end the rest is a LOAD_ERROR, at its end the pointer
closes, and before it the pointer moves on (R165). -/
def Obligations.LoadDataWritesWholeItems : Prop :=
  ∀ (s : State) (p n : Byte) (bs : List Byte), s.Awake → s.Owns p →
    let heard := s.countGood .upstream
    let pointing (x : State) (y : Option LoadPointer) : State := { x with tbs := { x.tbs with pointer := y } }
    (s.tbs.pointer = none → exec (.loadData p n bs) s = .next
      { heard with tbs := { heard.tbs with loadDiscards := heard.tbs.loadDiscards + 1 } }) ∧
    (∀ o, s.tbs.pointer = some o →
      let k := bs.length / o.table.itemSize
      let whole := bs.length % o.table.itemSize = 0 ∧ 1 ≤ k ∧ k ≤ 16
      let error := (pointing heard none).report (.loadError o.table)
      (n ≠ o.sequence → exec (.loadData p n bs) s = .next error) ∧
      (n = o.sequence → ¬whole → exec (.loadData p n bs) s = .next error) ∧
      (n = o.sequence → whole → o.next + k < o.table.count → exec (.loadData p n bs) s = .next
        (pointing ((heard.writeItems o.table k o.next bs).afterWrite o.table)
          (some { table := o.table, next := o.next + k, sequence := o.sequence + 1 }))) ∧
      (n = o.sequence → whole → o.next + k = o.table.count → exec (.loadData p n bs) s = .next
        (pointing ((heard.writeItems o.table k o.next bs).afterWrite o.table) none)) ∧
      (n = o.sequence → whole → o.table.count < o.next + k → o.next < o.table.count →
        exec (.loadData p n bs) s = .next
          ((pointing ((heard.writeItems o.table (o.table.count - o.next) o.next bs).afterWrite o.table)
            none).report (.loadError o.table))))

/-- What a write stores and what it does. An item is stored in its corrected form, field by field from its bytes:
numbers clamped to their ranges, an ensemble address of 255 as 254, a group address, alternate striker or choke
damper out of range as absent, a note entry whose primary striker is above 23 with primary 0 and disabled, a curve
above 7 as 7, a curve override of 0xFF as absent and one of 8 to 0xFE as 7 (R5 to R7, R162, R163, R177). Items are
written one after the other, each from its own bytes. A striker record written gives its channel the reset values
with the trim seed, marks kept; a damper record its damper's. A node record is read at once: the rotor position is
brought into range; a chain end set to yes resets the path delay but for the next probe number and ends
DOWNSTREAM_LOST; the supply level is judged afresh with the new thresholds, a candidate still indicated keeping its
start, and the new filter time applies to it (log entry 19). A supervision item is stored and the lamp follows.
Items of tables 4 to 6 go into the load bank, the one that the play-bank selector does not name. A LOAD_DATA that
wrote moves IDLE to CONFIG with the 60 s timer for tables 0 to 3, and cancels and counts a pending swap for tables 4
to 6 (R1, R12, R81, R91, R99, R117, R144, R147, R152, R166). -/
def Obligations.WritesTakeEffectAtTheWrite : Prop :=
  (∀ bs : List Byte,
    let b (i : Nat) : Nat := (bs.getD i 0).toNat
    let two (i : Nat) : Nat := 256 * b i + b (i + 1)
    let flagged (i bit : Nat) : Bool := decide (b i / 2 ^ bit % 2 = 1)
    let signed (size n : Nat) : Int := if 2 * n < size then n else (n : Int) - size
    let within (low high n : Int) : Int := if n < low then low else if high < n then high else n
    let between (low high n : Nat) : Nat := if n < low then low else if high < n then high else n
    let group (i : Nat) : Option Byte := if b i = 255 then none else some (bs.getD i 0)
    StrikerRecord.ofBytes bs =
        { enabled := flagged 0 0, sense := flagged 0 1, adapt := flagged 0 2
          fHard := between 0 4095 (two 1), fSoft := between 0 4095 (two 3), wMin := between 0 2047 (two 5)
          wMax := between 0 2047 (two 7), recovery := two 9, hDerate := two 11, hCut := two 13, cooling := b 15
          impactWindow := between 0 1023 (two 16), trimSeed := within (-512) 511 (signed 65536 (two 18)) } ∧
      DamperRecord.ofBytes bs =
        { enabled := flagged 0 0, releaseTravel := two 1, engageTravel := two 3, chokeHold := two 5 } ∧
      NodeRecord.ofBytes bs =
        { ensemble := if b 0 = 255 then 254 else bs.getD 0 0
          group1 := group 1, group2 := group 2, group3 := group 3
          compensation := flagged 4 0, chainEnd := flagged 4 1, notices := flagged 4 2
          rotorEnabled := flagged 4 3, indexEnabled := flagged 4 4
          markPeriod := between 100 50000 (two 5)
          holdoverLimit := between 1000 16777215 (65536 * b 7 + 256 * b 8 + b 9)
          setupMargin := between 0 1000 (two 10), lateTolerance := two 12, lowThreshold := b 14
          cutThreshold := b 15, hysteresis := b 16, filterTime := between 1 255 (b 17)
          stepsPerRev := between 1 1000 (two 18), rampStep := between 1 255 (b 20) } ∧
      SupervisionItem.ofBytes bs =
        { reaction := (match b 0 % 4 with | 0 => .warn | 1 => .hold | 2 => .recover | _ => .halt)
          notice := flagged 0 7 } ∧
      NoteEntry.ofBytes bs =
        { enabled := decide (b 0 ≠ 0 ∧ b 1 < 24)
          primary := if h : b 1 < 24 then ⟨b 1, h⟩ else 0
          alternate := if h : b 2 < 24 then some ⟨b 2, h⟩ else none
          curve := if h : b 3 < 8 then ⟨b 3, h⟩ else 7
          offset := within (-16) 15 (signed 256 (b 4))
          choke := if h : b 5 < 4 then some ⟨b 5, h⟩ else none } ∧
      curveOfBytes bs = between 0 2047 (two 0) ∧
      ArticulationItem.ofBytes bs =
        { curve := if b 0 = 255 then none else if h : b 0 < 8 then some ⟨b 0, h⟩ else some 7
          offset := within (-16) 15 (signed 256 (b 1)) }) ∧
  ∀ (s : State) (bs : List Byte),
    (∀ (t : TableId) (k i : Nat),
      s.writeItems t (k + 1) i bs
        = (s.writeItem t i (bs.take t.itemSize)).writeItems t k (i + 1) (bs.drop t.itemSize)) ∧
    (∀ (t : TableId) (i : Nat), s.writeItems t 0 i bs = s) ∧
    (∀ n : Fin 24,
      let r := StrikerRecord.ofBytes bs
      s.writeItem .striker n.val bs =
        { s with
          tbs := { s.tbs with strikers := s.tbs.strikers.set n r }
          stc :=
            { s.stc with
              channels :=
                s.stc.channels.set n
                  { trim := r.trimSeed, marks := (s.channel n).marks
                    suspended := (s.channel n).suspended } } }) ∧
    (∀ d : Fin 4,
      s.writeItem .damper d.val bs =
        { s with
          tbs := { s.tbs with dampers := s.tbs.dampers.set d (DamperRecord.ofBytes bs) }
          dmc := { s.dmc with dampers := s.dmc.dampers.set d {} } }) ∧
    (let r := NodeRecord.ofBytes bs
     let written : State :=
       { s with
         tbs := { s.tbs with node := r }
         rot := { s.rot with position := s.rot.position % r.stepsPerRev }
         pdu := if r.chainEnd = true then { nextProbe := s.pdu.nextProbe } else s.pdu }
     let told : State :=
       if r.chainEnd = true ∧ s.pdu.downstreamLost = true then written.reportEnd .downstreamLost else written
     let band := indicatedBand r s.sup.level.toNat s.sup.band
     let candidate : Option Candidate :=
       if band = s.sup.band then none
       else
         match s.sup.candidate with
         | none => some { band := band, start := s.localTime }
         | some c => if c.band = band then some c else some { band := band, start := s.localTime }
     s.Awake →
       exec .supplyFilterExpiry { told with sup := { s.sup with candidate := candidate } }
         = .next (s.writeItem .node 0 bs)) ∧
    (∀ i : Fin 16,
      s.writeItem .supervision i.val bs =
        { s with
          tbs :=
            { s.tbs with supervision := s.tbs.supervision.set i (SupervisionItem.ofBytes bs) } }.refreshLamp) ∧
    (let loaded (change : Bank → Bank) : State :=
       { s with
         tbs :=
           (match s.tbs.playBank with
            | .a => { s.tbs with bankB := change s.tbs.bankB }
            | .b => { s.tbs with bankA := change s.tbs.bankA }) }
     (∀ i : Fin 128,
       s.writeItem .note i.val bs
         = loaded fun b => { b with notes := b.notes.set i (NoteEntry.ofBytes bs) }) ∧
     (∀ i : Fin 512,
       s.writeItem .curve i.val bs
         = loaded fun b => { b with curves := b.curves.set i (curveOfBytes bs) }) ∧
     (∀ i : Fin 3,
       s.writeItem .articulation i.val bs
         = loaded fun b => { b with articulations := b.articulations.set i (ArticulationItem.ofBytes bs) })) ∧
    (∀ t : TableId, t = .striker ∨ t = .damper ∨ t = .node ∨ t = .supervision →
      (s.mdc.mode = .idle → s.afterWrite t =
        { s with
          mdc := { s.mdc with mode := .config, timer := some (s.localTime + 6000000 * 16) } }) ∧
      (s.mdc.mode ≠ .idle → s.afterWrite t = s)) ∧
    (∀ t : TableId, t = .note ∨ t = .curve ∨ t = .articulation →
      (s.tbs.pendingSwap ≠ none → s.afterWrite t =
        { s with
          tbs :=
            { s.tbs with pendingSwap := none, swapCancellations := s.tbs.swapCancellations + 1 } }) ∧
      (s.tbs.pendingSwap = none → s.afterWrite t = s))

/-- A BANKSWAP of the node's own position is ignored in LOCKED_OUT, refused with BANK_MISMATCH when its digest is not
the load bank's, taken at once when its time is not after now or the clock is not locked, and pending otherwise. The
swap time reached, a pending swap takes effect: the selector changes and a pointer open on a banked table closes
(R9 to R11). -/
def Obligations.BankSwapsAreCheckedAndTaken : Prop :=
  ∀ (s : State), s.Awake →
    let swapped (x : State) : State :=
      { x with
        tbs :=
          { x.tbs with
            playBank := (match x.tbs.playBank with | .a => .b | .b => .a)
            pendingSwap := none
            pointer :=
              (match x.tbs.pointer with
               | none => none
               | some o =>
                 if o.table = .note ∨ o.table = .curve ∨ o.table = .articulation then none else some o) } }
    (∀ (p : Byte) (t : ShowTime) (digest : Half), s.Owns p →
      let heard := s.countGood .upstream
      let loadBank := match s.tbs.playBank with | .a => s.tbs.bankB | .b => s.tbs.bankA
      (s.mdc.mode = .lockedOut → exec (.bankswap p t digest) s = .next heard) ∧
      (s.mdc.mode ≠ .lockedOut → loadBank.digest ≠ digest →
        exec (.bankswap p t digest) s = .next (heard.report .bankMismatch)) ∧
      (s.mdc.mode ≠ .lockedOut → loadBank.digest = digest →
        (signedDiff t s.now ≤ 0 ∨ s.scu.sync = .unlocked ∨ s.scu.sync = .acquiring →
          exec (.bankswap p t digest) s = .next (swapped heard)) ∧
        (0 < signedDiff t s.now → s.scu.sync = .locked ∨ s.scu.sync = .holdover →
          exec (.bankswap p t digest) s = .next
            { heard with tbs := { heard.tbs with pendingSwap := some t } }))) ∧
    (∀ t, s.tbs.pendingSwap = some t →
      (signedDiff t s.now ≤ 0 → exec .swapTimeReached s = .next (swapped s)) ∧
      (0 < signedDiff t s.now → exec .swapTimeReached s = .next s)) ∧
    (s.tbs.pendingSwap = none → exec .swapTimeReached s = .next s)

/-! ### The mode -/

/-- A COMMIT of the node's own position with the digest of tables 0 to 3, in IDLE or CONFIG, stops the timer, enters
RUN, closes the pointer, empties the fault list, the first-fault record and the overflow count and releases every
hold mark, but for those of a DRIVER_FAULT present with class HOLD, which are kept (R140). The conditions present are
then reported again in RUN, those that had records first and in their order, the others in kind order; one of class
HALT so brings SAFE (log entry 20, DEDUCED), and a DRIVER_FAULT of class RECOVER sets its suspend marks (log
entry 36). Present is what is present after the COMMIT's own count: LINK_ERRORS that it ends is not re-added (log
entry 34, the model's choice). With another digest it reports COMMIT_MISMATCH; in any other mode it
changes nothing (R141, R142, R153). -/
def Obligations.CommitEntersRun : Prop :=
  ∀ (s : State) (p : Byte) (digest : Half), s.Awake → s.Owns p →
    let heard := s.countGood .upstream
    (s.mdc.mode = .run ∨ s.mdc.mode = .safe ∨ s.mdc.mode = .lockedOut →
      exec (.commit p digest) s = .next heard) ∧
    (s.mdc.mode = .idle ∨ s.mdc.mode = .config → s.tbs.configDigest ≠ digest →
      exec (.commit p digest) s = .next (heard.report .commitMismatch)) ∧
    (s.mdc.mode = .idle ∨ s.mdc.mode = .config → s.tbs.configDigest = digest →
      let old := heard.svu.faults.map FaultRecord.pair
      let again := old.filter heard.present ++ heard.presentConditions.filter fun q => !old.contains q
      let kept (g : Fin 3) : Bool :=
         heard.svu.driverFault[g] && decide (heard.effectiveClass .driverFault = ReactionClass.hold)
      let playing : State :=
        { heard with
          mdc := { heard.mdc with mode := .run, timer := none }
          tbs := { heard.tbs with pointer := none } }.refreshLamp
      let emptied : State :=
        { playing with
          svu := { playing.svu with faults := [], first := none, overflow := 0 }
          stc :=
            { heard.stc with
              channels := tabulate fun n =>
                let c := heard.stc.channels[n]
                { c with
                  marks :=
                    { noImpact := false, offTime := false
                      driverFault := c.marks.driverFault && kept (groupOf n) } } } }.refreshLamp
      exec (.commit p digest) s = .next (again.foldl (fun x q => x.report q) emptied))

/-- A HALT of the node's own position takes RUN into SAFE: every driving channel is truncated, with the time driven
added to its heat, its window cancelled and its recovery begun unless a mark keeps it; a damper entry due at this
instant is dropped and counted so (R84, R90), and every other pending entry, a strike due at this instant among them
(R52), is flushed and counted (R50; log entry 32); the dampers drop; the rotor stops; the pointer closes; the lamp
is steady. The drives, dampers and rotor stop in the same way on entering CUT (R148). In any other mode it changes
nothing. A RESUME takes SAFE into RUN when no record of HALT class stands, and is refused and counted otherwise
(R67, R88, R97, R155 to R157). -/
def Obligations.HaltAndResumeChangeTheMode : Prop :=
  (∀ x : State,
    let isDue (y : Entry) : Bool := decide (y.isStrike = false ∧ signedDiff y.action x.now ≤ 0)
    let isWaiting (y : Entry) : Bool := decide (y.isStrike = false ∧ 0 < signedDiff y.action x.now)
    let stopped : State :=
      { x with
        dmc := {}
        rot := { x.rot with target := 0, current := 0, output := false, cycle := none, align := none }
        stc :=
          { x.stc with
            channels :=
              tabulate fun n =>
                let c := x.stc.channels[n]
                match c.drive with
                | none => c
                | some d =>
                  { c with
                    output := false
                    drive := none
                    window := none
                    heat :=
                      min 65535
                        (c.heat
                          + (d.width
                              - (signedDiff (d.start + BitVec.ofNat 32 d.width) x.now).toNat))
                    recoveryEnd :=
                      if c.marks.any = true ∨ c.suspended = true then none
                      else some (x.now + BitVec.ofNat 32 (x.strikerRecord n).recovery) } } }
    x.stopActuators = stopped ∧
    x.enterSafe =
      { stopped with
        mdc := { x.mdc with mode := .safe }
        tbs := { x.tbs with pointer := none }
        sch :=
          { x.sch with
            entries := []
            flushed := x.sch.flushed + BitVec.ofNat 32 (x.sch.entries.countP Entry.isStrike)
            damperDropped := x.sch.damperDropped + BitVec.ofNat 32 (x.sch.entries.countP isDue)
            damperFlushed := x.sch.damperFlushed + BitVec.ofNat 32 (x.sch.entries.countP isWaiting) }
        svu :=
          { x.svu with
            lamp := .steady, lampOn := if x.svu.lamp = .steady then x.svu.lampOn else true } }) ∧
  (∀ (s : State) (p : Byte), s.Awake → s.Owns p →
    let heard := s.countGood .upstream
    (s.mdc.mode ≠ .run → exec (.halt p) s = .next heard) ∧
    (s.mdc.mode = .run → exec (.halt p) s = .next heard.enterSafe) ∧
    (s.mdc.mode ≠ .safe → exec (.resume p) s = .next heard) ∧
    (s.mdc.mode = .safe → (∃ r ∈ heard.svu.faults, s.effectiveClass r.pair.kind = .halt) →
      exec (.resume p) s = .next
        { heard with mdc := { heard.mdc with resumeRefused := heard.mdc.resumeRefused + 1 } }) ∧
    (s.mdc.mode = .safe → (∀ r ∈ heard.svu.faults, s.effectiveClass r.pair.kind ≠ .halt) →
      exec (.resume p) s = .next
        { heard with
          mdc := { heard.mdc with mode := .run }
          tbs := { heard.tbs with pointer := none } }.refreshLamp))

/-! ### Clears -/

/-- CLEAR statistics of the node's own position sets exactly the listed statistics to 0 or to none, with strike
accepted at the pending strike entries; its own good frame is counted before, so all ten link frame counters are
then 0 (log entry 34, the model's choice). CLEAR first-fault empties the first-fault record (R55, R142, R171, R172).
-/
def Obligations.ClearStatisticsSetsTheListedCounters : Prop :=
  ∀ (s : State) (p : Byte), s.Awake → s.Owns p →
    let heard := s.countGood .upstream
    exec (.clearStatistics p) s = .next
      { heard with
        sch :=
          { entries := s.sch.entries
            accepted := BitVec.ofNat 32 (s.sch.entries.countP Entry.isStrike)
            started := 0, dropped := ⟨0, 0, 0, 0, 0, 0⟩, flushed := 0
            damperAccepted := 0, damperPerformed := 0, damperRedundant := 0, damperDropped := 0
            damperFlushed := 0 }
        acu :=
          { heard.acu with refusals := ⟨0, 0, 0, 0, 0, 0, 0, 0, 0⟩, margins := ⟨none, none, none⟩ }
        stc := { heard.stc with stray := 0 }
        rot := { heard.rot with lastIndexError := 0, indexErrors := 0 }
        liu := { heard.liu with counters := ⟨0, 0, 0, 0, 0, 0, 0, 0, 0, 0⟩ }
        mdc := { heard.mdc with resumeRefused := 0 }
        tbs := { heard.tbs with swapCancellations := 0, loadDiscards := 0 } } ∧
    exec (.clearFirstFault p) s = .next { heard with svu := { heard.svu with first := none } }

/-- CLEAR record of the node's own position changes nothing for a code that names no pair or a pair without a
record; otherwise the record leaves the list and, if its condition is still present, a new record of it stands at
the end, with its hold marks released if it is not, or not with class HOLD. A kind code above 15 names no pair, nor
does a subject out of range; the subject of a kind without one is not read (R171, R176). CLEAR all empties the list
and the overflow count, releases every hold mark but those of a DRIVER_FAULT present with class HOLD, and re-adds
the present conditions, first those that had records, in their order, then the others in kind and subject order; the
ninth finds the list full. The conditions present are the DRIVER_FAULT of each group, SUPPLY_LOW below the band
NORMAL, SUPPLY_CUT in CUT, LINK_ERRORS of each port, DOWNSTREAM_LOST and CHAIN_TOO_LONG, and no event is. Each
re-added record is a report with its class, so one of class HALT re-added in RUN brings SAFE (log entry 20, DEDUCED)
and a DRIVER_FAULT of class RECOVER sets its suspend marks (log entry 36, the model's choice). Present is what is
present after the CLEAR's own count, so one that itself ends LINK_ERRORS does not re-add it (log entry 34, the
model's choice) (R135, R140, R141, R148). -/
def Obligations.ClearsRemoveAndReaddRecords : Prop :=
  (∀ s : State,
    let pairs : List (FaultPair × Bool) :=
      [(.driverFault 0, s.svu.driverFault[0]), (.driverFault 1, s.svu.driverFault[1]),
        (.driverFault 2, s.svu.driverFault[2]), (.supplyLow, decide (s.sup.band ≠ .normal)),
        (.supplyCut, decide (s.sup.band = .cut)), (.linkErrors .upstream, s.liu.errorsUp),
        (.linkErrors .downstream, s.liu.errorsDown), (.downstreamLost, s.pdu.downstreamLost),
        (.chainTooLong, s.liu.chainTooLong)]
    s.presentConditions = (pairs.filter Prod.snd).map Prod.fst ∧
    (∀ x ∈ pairs, s.present x.1 = x.2) ∧
    (∀ q : FaultPair, (∀ x ∈ pairs, x.1 ≠ q) → s.present q = false)) ∧
  (∀ k n : Byte,
    readPair k n =
      match k.toNat with
      | 0 => if h : n.toNat < 24 then some (.noImpact ⟨n.toNat, h⟩) else none
      | 1 => if h : n.toNat < 24 then some (.offTime ⟨n.toNat, h⟩) else none
      | 2 => if h : n.toNat < 3 then some (.driverFault ⟨n.toNat, h⟩) else none
      | 3 => some .supplyLow
      | 4 => some .supplyCut
      | 5 => some .clockWindow
      | 6 => some .clockLost
      | 7 => if n = 0 then some (.linkErrors .upstream) else if n = 1 then some (.linkErrors .downstream) else none
      | 8 => some .downstreamLost
      | 9 => some .chainTooLong
      | 10 => some .scheduleFull
      | 11 => some .returnOverflow
      | 12 => (readTable n).map .loadError
      | 13 => some .bankMismatch
      | 14 => some .commitMismatch
      | 15 => some .configTimeout
      | _ => none) ∧
  ∀ (s : State) (p : Byte), s.Awake → s.Owns p → s.svu.faults.length ≤ 8 →
      (s.svu.faults.map FaultRecord.pair).Nodup →
    let heard := s.countGood .upstream
    (∀ k n, readPair k n = none → exec (.clearRecord p k n) s = .next heard) ∧
    (∀ k n q, readPair k n = some q → (∀ r ∈ heard.svu.faults, r.pair ≠ q) →
      exec (.clearRecord p k n) s = .next heard) ∧
    (∀ k n q, readPair k n = some q → (∃ r ∈ heard.svu.faults, r.pair = q) →
      let others := heard.svu.faults.filter fun r => r.pair != q
      let removed : State := { heard with svu := { heard.svu with faults := others } }.refreshLamp
      let released := if heard.present q = true ∧ heard.effectiveClass q.kind = .hold then removed
        else removed.releasePair q
      ∃ u, exec (.clearRecord p k n) s = .next u ∧
        u = (if heard.present q = true then released.report q else released) ∧
        u.svu.first = (if heard.present q = true ∧
            heard.svu.first = none then some (heard.newRecord q) else heard.svu.first) ∧
        u.svu.faults = (if heard.present q = true then others ++ [heard.newRecord q] else others) ∧
        u.svu.overflow = heard.svu.overflow ∧ u.scu = heard.scu ∧ u.pdu = heard.pdu ∧ u.acu = heard.acu ∧
        u.sup = heard.sup ∧
        (heard.present q = false → u.stc = (heard.releasePair q).stc ∧ u.sch = heard.sch ∧
          u.mdc = heard.mdc ∧ u.tbs = heard.tbs ∧ u.liu = heard.liu)) ∧
    (let old := heard.svu.faults.map FaultRecord.pair
     let again := old.filter heard.present ++ heard.presentConditions.filter fun q => !old.contains q
     let kept (g : Fin 3) : Bool :=
        heard.svu.driverFault[g] && decide (heard.effectiveClass .driverFault = ReactionClass.hold)
     let emptied : State :=
       { heard with
         svu := { heard.svu with faults := [], overflow := 0 }
         stc :=
           { heard.stc with
             channels := tabulate fun n =>
               let c := heard.stc.channels[n]
               { c with
                 marks :=
                   { noImpact := false, offTime := false
                     driverFault := c.marks.driverFault && kept (groupOf n) } } } }.refreshLamp
     ∃ u, exec (.clearAllFaults p) s = .next u ∧
       u = again.foldl (fun x q => x.report q) emptied ∧
       u.svu.faults.map FaultRecord.pair = again.take 8 ∧
       (∀ r ∈ u.svu.faults,
         r.occurrences = 1 ∧ r.active = true ∧ r.firstSeen = s.now ∧ r.lastSeen = s.now) ∧
       u.svu.overflow = again.length - 8 ∧ u.scu = heard.scu ∧ u.pdu = heard.pdu ∧ u.acu = heard.acu ∧
       u.sup = heard.sup ∧
       (again = [] → ∀ n, (u.channel n).marks = {}))

/-! ### The link -/

/-- A bad frame is counted and raises its port's leak counter by 8, to at most 255; LINK_ERRORS starts when the
counter reaches 64. A good frame is counted and lowers it by 1, to no less than 0; LINK_ERRORS ends when it falls
below 32 (R120, R121). -/
def Obligations.FramesMoveTheLeakCounters : Prop :=
  ∀ s : State,
    (let n := if 255 < s.liu.leakUp + 8 then 255 else s.liu.leakUp + 8
     let bad (x : Bool) : State :=
       { s with
         liu :=
           { s.liu with
             leakUp := n, errorsUp := x
             counters := { s.liu.counters with upBad := s.liu.counters.upBad + 1 } } }
     s.Awake →
       (s.liu.errorsUp = false → 64 ≤ n →
         exec (.badFrame .upstream) s = .next ((bad true).report (.linkErrors .upstream))) ∧
       (s.liu.errorsUp = true ∨ n < 64 → exec (.badFrame .upstream) s = .next (bad s.liu.errorsUp))) ∧
    (let n := if 255 < s.liu.leakDown + 8 then 255 else s.liu.leakDown + 8
     let bad (x : Bool) : State :=
       { s with
         liu :=
           { s.liu with
             leakDown := n, errorsDown := x
             counters := { s.liu.counters with downBad := s.liu.counters.downBad + 1 } } }
     s.Awake →
       (s.liu.errorsDown = false → 64 ≤ n →
         exec (.badFrame .downstream) s = .next ((bad true).report (.linkErrors .downstream))) ∧
       (s.liu.errorsDown = true ∨ n < 64 →
         exec (.badFrame .downstream) s = .next (bad s.liu.errorsDown))) ∧
    (let good (x : Bool) : State :=
       { s with
         liu :=
           { s.liu with
             leakUp := s.liu.leakUp - 1, errorsUp := x
             counters := { s.liu.counters with upGood := s.liu.counters.upGood + 1 } } }
     (s.liu.errorsUp = true → s.liu.leakUp - 1 < 32 →
       s.countGood .upstream = (good false).reportEnd (.linkErrors .upstream)) ∧
     (s.liu.errorsUp = false ∨ 32 ≤ s.liu.leakUp - 1 → s.countGood .upstream = good s.liu.errorsUp)) ∧
    (let good (x : Bool) : State :=
       { s with
         liu :=
           { s.liu with
             leakDown := s.liu.leakDown - 1, errorsDown := x
             counters := { s.liu.counters with downGood := s.liu.counters.downGood + 1 } } }
     (s.liu.errorsDown = true → s.liu.leakDown - 1 < 32 →
       s.countGood .downstream = (good false).reportEnd (.linkErrors .downstream)) ∧
     (s.liu.errorsDown = false ∨ 32 ≤ s.liu.leakDown - 1 → s.countGood .downstream = good s.liu.errorsDown))

/-- A PROBE takes the returned-probe slot, whatever it held, and starts at once on an idle transmitter. A frame of
unknown or return-lane kind is counted and forwarded as it is; so is a frame of known kind and wrong length, but for a
PROBE, which is only counted. A forwarded copy waits at the tail of the queue, and an idle transmitter is at a frame
boundary at once, so that on an empty queue the copy starts, or is discarded there (R119, R127); a fifth one is not
queued and is counted, and if it was a RESTART for this node its reset begins (R125; log entry 9) (R122, R126, R129). -/
def Obligations.ProbesAndUnreadFramesAreTaken : Prop :=
  ∀ s : State, s.Awake →
    let heard := s.countGood .upstream
    let counted (c : LinkCounters) : State := { heard with liu := { heard.liu with counters := c } }
    let was := heard.liu.counters
    (∀ (o n : Byte) (hold : Half),
      exec (.probe o n hold) s = .next
        ({ heard with
            liu :=
              { heard.liu with
                slot := some { originator := o, number := n, receivedAt := s.localTime } } }.kickReturn)) ∧
    (∀ (k : Byte) (bs : List Byte),
      exec (.unknownKindFrame k bs) s = .next
        ((counted { was with unknownKind := was.unknownKind + 1 }).forwardCopy ⟨k, bs⟩ false)) ∧
    (∀ (bs : List Byte),
      exec (.malformedFrame 0x30 bs) s = .next (counted { was with malformed := was.malformed + 1 })) ∧
    (∀ (k : Byte) (bs : List Byte), k ≠ 0x30 →
      exec (.malformedFrame k bs) s = .next
        ((counted { was with malformed := was.malformed + 1 }).forwardCopy ⟨k, bs⟩ false)) ∧
    (∀ (f : Frame) (r : Bool),
      let queued : State := { s with liu := { s.liu with forward := s.liu.forward ++ [.copy f r] } }
      let discarded : State :=
        { s with
          liu :=
            { s.liu with
              counters := { s.liu.counters with forwardDiscards := s.liu.counters.forwardDiscards + 1 } } }
      (s.liu.forward.length < 4 →
        (s.liu.sendingDown ≠ none → s.forwardCopy f r = queued) ∧
        (s.liu.sendingDown = none → exec .downstreamFrameBoundary queued = .next (s.forwardCopy f r)) ∧
        (s.liu.sendingDown = none → s.liu.forward = [] → s.node.chainEnd = false →
          s.pdu.downstreamLost = false →
          s.forwardCopy f r
            = { s with liu := { s.liu with sendingDown := some { frame := f, job := .copy r } } })) ∧
      (4 ≤ s.liu.forward.length →
        (r = false → s.forwardCopy f r = discarded) ∧
        (r = true → s.forwardCopy f r =
          { discarded.cutOff with
            resetting := some { cause := .link, endsAt := some (s.localTime + 10 * 16) } })))

/-- A PROBE returned on the downstream port gives a sample if it carries the outstanding number: half the loop less the
hold and 48, not below 0; the first sample and one more than 64 away restart the average, another moves it by a
sixteenth of the difference, and the 64th makes the quality FINE; the missing count becomes 0 and a lost link is found
again. Any other PROBE changes nothing beyond its good-frame count (R113 to R115). -/
def Obligations.ReturnedProbeGivesASample : Prop :=
  ∀ (s : State) (o n : Byte) (hold : Half), s.Awake →
    let heard := s.countGood .downstream
    ((∀ x, s.pdu.outstanding = some x → x.number ≠ n) →
      exec (.returnedProbe o n hold) s = .next heard) ∧
    (∀ sentAt, s.pdu.outstanding = some { number := n, sentAt := some sentAt } →
      let net : Int := (s.localTime : Int) - sentAt - hold.toNat - 48
      let sample : Nat := if net < 0 then 0 else (net / 2).toNat
      let away : Int := (sample : Int) - s.pdu.average
      let count := if s.pdu.samples < 255 then s.pdu.samples + 1 else 255
      let averaged : Pdu :=
        if s.pdu.samples = 0 ∨ 64 < away ∨ away < -64 then
          { s.pdu with average := sample, samples := 1, quality := .coarse }
        else
          { s.pdu with
            average := (s.pdu.average + (if 0 ≤ away then away / 16 else -(-away / 16))).toNat
            samples := count
            quality := if 64 ≤ count then .fine else s.pdu.quality }
      let found : State :=
        { heard with
          pdu := { averaged with outstanding := none, missing := 0, downstreamLost := false } }
      (s.pdu.downstreamLost = false → exec (.returnedProbe o n hold) s = .next found) ∧
      (s.pdu.downstreamLost = true →
        exec (.returnedProbe o n hold) s = .next (found.reportEnd .downstreamLost)))

/-- Any other good frame on the downstream port joins the tail of the relay queue and starts at once on an idle
transmitter; with 16 frames waiting it is lost, counted and reported as RETURN_OVERFLOW; a PROBE of wrong length is
counted as malformed and goes nowhere (R130). -/
def Obligations.RelayFramesJoinTheRelayQueue : Prop :=
  ∀ (s : State) (k : Byte) (bs : List Byte), s.Awake →
    let heard := s.countGood .downstream
    let counted (c : LinkCounters) : State := { heard with liu := { heard.liu with counters := c } }
    let was := heard.liu.counters
    (k ≠ 0x30 → s.liu.relay.length < 16 →
      exec (.relayFrame k bs) s = .next
        ({ heard with liu := { heard.liu with relay := s.liu.relay ++ [(⟨k, bs⟩ : Frame)] } }.kickReturn)) ∧
    (k ≠ 0x30 → 16 ≤ s.liu.relay.length →
      exec (.relayFrame k bs) s = .next
        ((counted { was with relayDiscards := was.relayDiscards + 1 }).report .returnOverflow)) ∧
    (k = 0x30 → bs.length ≠ 4 →
      exec (.relayFrame k bs) s = .next (counted { was with malformed := was.malformed + 1 }))

/-- At a frame boundary of the idle downstream transmitter the head of the forward queue starts: a MARK with its hop
count, the received path delay plus residence plus the downstream average (saturating) and the lower quality; any other
copy as it was received. At the chain end every head, and with the link below lost every head but a MARK, is discarded
and counted instead, and the next head is looked at. The end of a frame in transmission comes first (R116, R125 to
R127). The model's own in it: the time a MARK takes to leave is a free constant (log entry 6); a discarded or sent
RESTART begins its reset as log entry 9 has it; a probe due with a MARK that is discarded is skipped (log entry 15);
a probe's send instant is the end of its transmission (log entry 16). -/
def Obligations.DownstreamBoundaryStartsTheHead : Prop :=
  ∀ s : State, s.Awake →
    let starting (f : Frame) (j : SendingJob) (rest : List ForwardItem) : State :=
      { s with liu := { s.liu with forward := rest, sendingDown := some { frame := f, job := j } } }
    let discarding (rest : List ForwardItem) : State :=
      { s with
        liu :=
          { s.liu with
            forward := rest
            counters := { s.liu.counters with forwardDiscards := s.liu.counters.forwardDiscards + 1 } } }
    (s.liu.sendingDown = none →
      (s.liu.forward = [] → exec .downstreamFrameBoundary s = .next s) ∧
      (∀ m rest, s.liu.forward = .mark m :: rest →
        (s.node.chainEnd = false →
          let total := m.pathDelay + (s.localTime - m.receivedAt + Config.markTransmitTime) + s.pdu.average
          let delay := if total ≤ 16777215 then total else 16777215
          let quality : Byte :=
            if m.quality.code.toNat ≤ s.pdu.quality.code.toNat then m.quality.code else s.pdu.quality.code
          exec .downstreamFrameBoundary s = .next
            (starting (markFrame m.showTime m.hop (BitVec.ofNat 24 delay) quality) (.mark m.opensProbe) rest)) ∧
        (s.node.chainEnd = true →
          exec .downstreamFrameBoundary s
            = exec .downstreamFrameBoundary
              { discarding rest with
                pdu := { s.pdu with probeDue := if m.opensProbe = true then .none else s.pdu.probeDue } })) ∧
      (∀ f r rest, s.liu.forward = .copy f r :: rest →
        (s.node.chainEnd = false → s.pdu.downstreamLost = false →
          exec .downstreamFrameBoundary s = .next (starting f (.copy r) rest)) ∧
        (s.node.chainEnd = true ∨ s.pdu.downstreamLost = true → r = false →
          exec .downstreamFrameBoundary s = exec .downstreamFrameBoundary (discarding rest)) ∧
        (s.node.chainEnd = true ∨ s.pdu.downstreamLost = true → r = true →
          exec .downstreamFrameBoundary s = .next
            { (discarding rest).cutOff with
              resetting := some { cause := .link, endsAt := some (s.localTime + 10 * 16) } }))) ∧
    (∀ f j, s.liu.sendingDown = some { frame := f, job := j } →
      let ended : State := { s with liu := { s.liu with sendingDown := none } }
      (j = .copy false ∨ j = .mark false →
        exec .downstreamFrameBoundary s = exec .downstreamFrameBoundary ended) ∧
      (j = .copy true → exec .downstreamFrameBoundary s = .next
        { ended.cutOff with
          resetting := some { cause := .link, endsAt := some (s.localTime + 10 * 16) } }) ∧
      (j = .mark true → s.pdu.probeDue = .afterMark →
        exec .downstreamFrameBoundary s
          = exec .downstreamFrameBoundary
            { ended with pdu := { s.pdu with probeDue := .window (s.localTime + 16 * 16) } }) ∧
      (j = .mark true → s.pdu.probeDue ≠ .afterMark →
        exec .downstreamFrameBoundary s = exec .downstreamFrameBoundary ended) ∧
      (∀ o, j = .probe → s.pdu.outstanding = some o →
        exec .downstreamFrameBoundary s
          = exec .downstreamFrameBoundary
            { ended with
              pdu := { s.pdu with outstanding := some { o with sentAt := some s.localTime } } }) ∧
      (j = .probe → s.pdu.outstanding = none →
        exec .downstreamFrameBoundary s = exec .downstreamFrameBoundary ended))

/-- At a frame boundary of the upstream transmitter the returned PROBE starts first, with its hold written; otherwise
the head of the queue that the turn names, or of the only one that holds frames, and the turn then names the other
queue; otherwise idle fill (R112, R128, R129). A frame given to the return lane waits while a frame is in transmission;
an idle transmitter is at a boundary at once (R119). -/
def Obligations.UpstreamBoundaryArbitrates : Prop :=
  ∀ s : State, s.Awake →
    let l := s.liu
    let after (x : Liu) := exec .upstreamFrameBoundary s = .next { s with liu := x }
    (∀ p, l.slot = some p →
      let hold := if s.localTime - p.receivedAt ≤ 65535 then s.localTime - p.receivedAt else 65535
      after
        { l with
          slot := none
          sendingUp := some ⟨0x30, p.originator :: p.number :: bytes2 (BitVec.ofNat 16 hold)⟩ }) ∧
    (l.slot = none →
      (∀ f rest, l.relay = f :: rest → l.turn = .relay ∨ l.answer = [] →
        after { l with relay := rest, turn := .answer, sendingUp := some f }) ∧
      (∀ f rest, l.answer = f :: rest → l.turn = .answer ∨ l.relay = [] →
        after { l with answer := rest, turn := .relay, sendingUp := some f }) ∧
      (l.relay = [] → l.answer = [] → after { l with sendingUp := none })) ∧
    (l.sendingUp ≠ none → s.kickReturn = s) ∧
    (l.sendingUp = none → exec .upstreamFrameBoundary s = .next s.kickReturn)

/-- The due probe is sent within its 16 grains, at an idle transmitter with an empty queue, and becomes the outstanding
one; it is skipped when the 16 grains have passed. An outstanding probe whose 256 grains have passed is missing; the
fourth in a row loses the link below, with average, count and quality reset, and a later one changes nothing else
(R111, R115). That the probe is outstanding from the start of its transmission, with no send instant until its end, is
the model's reading (log entry 16). Before its instant each of these commands changes nothing (log entry 2). -/
def Obligations.ProbesAreSentSkippedAndMissed : Prop :=
  ∀ s : State, s.Awake →
    (∀ x, s.pdu.probeDue = .window x →
      (s.localTime ≤ x → s.liu.sendingDown = none → s.liu.forward = [] → s.pdu.outstanding = none →
        s.node.chainEnd = false →
        exec .probeSend s = .next
          { s with
            liu :=
              { s.liu with
                sendingDown :=
                  some
                    { frame := ⟨0x30, [s.liu.position, s.pdu.nextProbe, 0, 0]⟩
                      job := .probe } }
            pdu :=
              { s.pdu with
                probeDue := .none
                outstanding := some { number := s.pdu.nextProbe, sentAt := none }
                nextProbe := s.pdu.nextProbe + 1 } }) ∧
      (s.liu.sendingDown ≠ none ∨ s.liu.forward ≠ [] ∨ x < s.localTime → exec .probeSend s = .next s) ∧
      (x < s.localTime →
        exec .probeWindowExpiry s = .next { s with pdu := { s.pdu with probeDue := .none } }) ∧
      (s.localTime ≤ x → exec .probeWindowExpiry s = .next s)) ∧
    (∀ n t, s.pdu.outstanding = some { number := n, sentAt := some t } →
      let lost : State :=
        { s with
          pdu :=
            { s.pdu with
              outstanding := none, missing := 4, average := 0, samples := 0, quality := .none
              downstreamLost := true } }
      (s.localTime < t + 256 * 16 → exec .probeTimeout s = .next s) ∧
      (t + 256 * 16 ≤ s.localTime →
        (s.pdu.missing < 3 → exec .probeTimeout s = .next
          { s with pdu := { s.pdu with outstanding := none, missing := s.pdu.missing + 1 } }) ∧
        (s.pdu.missing = 3 → s.pdu.downstreamLost = false →
          exec .probeTimeout s = .next (lost.report .downstreamLost)) ∧
        (s.pdu.missing = 4 → exec .probeTimeout s = .next
          { s with pdu := { s.pdu with outstanding := none } })))

/-! ### Due and drives -/

/-- A DUE removes the head while it is not after now and hands it over, each entry in its turn; with the head after
now, or nothing pending, it changes nothing. An entry later than the late tolerance is dropped LATE and counted
(R43, R44). -/
def Obligations.DueHandsOverInOrder : Prop :=
  ∀ s : State, s.Awake →
    (s.sch.entries = [] → exec .due s = .next s) ∧
    (∀ x rest, s.sch.entries = x :: rest →
      let taken : State := { s with sch := { s.sch with entries := rest } }
      (0 < signedDiff x.action s.now → exec .due s = .next s) ∧
      (signedDiff x.action s.now ≤ 0 → exec .due s = exec .due (taken.handOver x)) ∧
      (∀ n w e, x.work = .strike n w e → (s.node.lateTolerance : Int) < signedDiff s.now x.action →
        taken.handOver x =
          { taken with
            sch :=
              { taken.sch with
                dropped := { taken.sch.dropped with late := taken.sch.dropped.late + 1 } } }) ∧
      (∀ d a c, x.work = .damper d a c → (s.node.lateTolerance : Int) < signedDiff s.now x.action →
        taken.handOver x =
          { taken with
            sch := { taken.sch with damperDropped := taken.sch.damperDropped + 1 } }))

/-- A strike handed over to a striker that is idle in RUN, within the tolerance, above CUT, not busy, cooler than its
cut threshold and under a ceiling that is not 0, starts its drive at now: the derated, ceiled and clamped width, the
output on unless it is 0, busy-until at the action time plus W_max + R, or lapsed if that is reached already; one more
strike is counted as started. A drive end and a recovery end of this instant are taken first. An earlier window still
open closes as a miss, the third in a row reported; then the window around E opens if sense is enabled and the drive
still runs, and closes at once as a miss if its end has passed (R45, R59 to R63, R74, R77; log entry 14). It is what a
DUE does with the head of the schedule; with the next entry after now, or none, it is all the DUE does. -/
def Obligations.DueStrikeStartsItsDrive : Prop :=
  ∀ (s : State) (n : Fin 24) (x : Entry) (rest : List Entry) (w1 : Nat) (expected : ShowTime),
    s.Awake → s.sch.entries = x :: rest → x.work = .strike n w1 expected → signedDiff x.action s.now ≤ 0 →
    signedDiff s.now x.action ≤ s.node.lateTolerance → s.mdc.mode = .run → s.sup.band ≠ .cut →
    let taken : State := { s with sch := { s.sch with entries := rest } }
    let ready := (taken.after (.driveEnd n)).after (.recoveryEnd n)
    let r := s.strikerRecord n
    let c := ready.channel n
    let hot := if r.hDerate < r.hCut then r.hCut else if r.hDerate + 1 < 65535 then r.hDerate + 1 else 65535
    let least := if r.wMax < r.wMin then r.wMax else r.wMin
    let w2 := if c.heat ≤ r.hDerate then w1 else w1 * (hot - c.heat) / (hot - r.hDerate)
    let w3 := if w2 < s.acu.ceiling then w2 else s.acu.ceiling
    let w := if w3 < least then least else if r.wMax < w3 then r.wMax else w3
    r.enabled = true → c.drive = none → c.marks.any = false → c.suspended = false → c.recoveryEnd = none →
    (∀ t, c.busyUntil = some t → 0 ≤ signedDiff s.now t) → c.heat < hot → s.acu.ceiling ≠ 0 →
    let until_ := x.action + BitVec.ofNat 32 (r.wMax + r.recovery)
    let driven : Channel :=
      { c with
        output := decide (w ≠ 0)
        drive := some { start := s.now, width := w }
        busyUntil := if 0 < signedDiff until_ s.now then some until_ else none }
    let begun (y : Channel) : State :=
      { ready with
        sch := { ready.sch with started := ready.sch.started + 1 }
        stc := { ready.stc with channels := ready.stc.channels.set n y } }
    let missed (run : Nat) : Channel := { driven with window := none, outlierRun := 0, missRun := run }
    let closed : State :=
      if c.window = none then begun driven
      else if c.missRun < 2 then begun (missed (c.missRun + 1))
      else (begun (missed 0)).report (.noImpact n)
    let opened : State :=
      if r.sense = true ∧ (closed.channel n).drive ≠ none then
        { closed with
          stc :=
            { closed.stc with
              channels := closed.stc.channels.set n { closed.channel n with window := some expected } } }
      else closed
    exec (.impactWindowEnd n) opened = .next (taken.handOver x) ∧
    (0 ≤ signedDiff (expected + BitVec.ofNat 32 r.impactWindow) s.now → taken.handOver x = opened) ∧
    ((∀ y tail, rest = y :: tail → 0 < signedDiff y.action s.now) → exec .due s = .next (taken.handOver x))

/-- A strike handed over within the tolerance is dropped with the first reason that applies, counted, and changes
nothing at its channel: OUT_OF_SERVICE outside RUN, NO_SUPPLY in CUT, OUT_OF_SERVICE for a disabled, held or suspended
striker, BUSY for one that drives, recovers or is before busy-until, HOT at or above its cut threshold, QUIETED under a
ceiling of 0. A drive end and a recovery end of this instant are taken before (R45, R60). It is what a DUE does with
the head of the schedule; with the next entry after now, or none, it is all the DUE does. -/
def Obligations.DueStrikeIsDroppedWithItsReason : Prop :=
  ∀ (s : State) (n : Fin 24) (x : Entry) (rest : List Entry) (w1 : Nat) (expected : ShowTime),
    s.Awake → s.sch.entries = x :: rest → x.work = .strike n w1 expected → signedDiff x.action s.now ≤ 0 →
    signedDiff s.now x.action ≤ s.node.lateTolerance →
    let taken : State := { s with sch := { s.sch with entries := rest } }
    let ready := (taken.after (.driveEnd n)).after (.recoveryEnd n)
    let r := s.strikerRecord n
    let c := ready.channel n
    let hot := if r.hDerate < r.hCut then r.hCut else if r.hDerate + 1 < 65535 then r.hDerate + 1 else 65535
    let dropped (d : DropCounters) :=
      taken.handOver x = { ready with sch := { ready.sch with dropped := d } } ∧
      ((∀ y tail, rest = y :: tail → 0 < signedDiff y.action s.now) →
        exec .due s = .next { ready with sch := { ready.sch with dropped := d } })
    let was := s.sch.dropped
    let play := s.mdc.mode = .run
    let fed := play ∧ s.sup.band ≠ .cut
    let out := r.enabled = false ∨ (c.drive = none ∧ (c.marks.any = true ∨ c.suspended = true))
    let busy := c.drive ≠ none ∨ c.recoveryEnd ≠ none ∨ ∃ t, c.busyUntil = some t ∧ signedDiff s.now t < 0
    (¬play → dropped { was with outOfService := was.outOfService + 1 }) ∧
    (play → s.sup.band = .cut → dropped { was with noSupply := was.noSupply + 1 }) ∧
    (fed → out → dropped { was with outOfService := was.outOfService + 1 }) ∧
    (fed → ¬out → busy → dropped { was with busy := was.busy + 1 }) ∧
    (fed → ¬out → ¬busy → hot ≤ c.heat → dropped { was with hot := was.hot + 1 }) ∧
    (fed → ¬out → ¬busy → c.heat < hot → s.acu.ceiling = 0 →
      dropped { was with quieted := was.quieted + 1 })

/-- A drive end turns the output off, adds the width to the heat and begins the recovery unless a mark keeps it; a
recovery end and the lapse of a busy-until take what they end; each only when the show clock has reached it (R63 to
R65, R71; log entry 2). -/
def Obligations.DriveRecoveryAndBusyEnd : Prop :=
  ∀ (s : State) (n : Fin 24), s.Awake →
    let c := s.channel n
    let put (x : Channel) : State := { s with stc := { s.stc with channels := s.stc.channels.set n x } }
    (∀ d, c.drive = some d →
      let ends := d.start + BitVec.ofNat 32 d.width
      (signedDiff ends s.now ≤ 0 → exec (.driveEnd n) s = .next
        (put
          { c with
            output := false
            drive := none
            heat := if c.heat + d.width ≤ 65535 then c.heat + d.width else 65535
            recoveryEnd :=
              if c.marks.any = true ∨ c.suspended = true then none
              else some (ends + BitVec.ofNat 32 (s.strikerRecord n).recovery) })) ∧
      (0 < signedDiff ends s.now → exec (.driveEnd n) s = .next s)) ∧
    (c.drive = none → exec (.driveEnd n) s = .next s) ∧
    (∀ t, c.recoveryEnd = some t →
      (signedDiff t s.now ≤ 0 → exec (.recoveryEnd n) s = .next (put { c with recoveryEnd := none })) ∧
      (0 < signedDiff t s.now → exec (.recoveryEnd n) s = .next s)) ∧
    (c.recoveryEnd = none → exec (.recoveryEnd n) s = .next s) ∧
    (∀ t, c.busyUntil = some t →
      (signedDiff t s.now ≤ 0 → exec (.busyUntilLapse n) s = .next (put { c with busyUntil := none })) ∧
      (0 < signedDiff t s.now → exec (.busyUntilLapse n) s = .next s)) ∧
    (c.busyUntil = none → exec (.busyUntilLapse n) s = .next s)

/-- An impact pulse is ignored without sense; within half the window it is good and corrects the trim by a quarter of
the error, clamped; within the window it is an outlier, and the third in a row is reported as OFF_TIME; otherwise it is
stray and counted. The window's end passed is a miss, and the third in a row is reported as NO_IMPACT (R74 to R78). -/
def Obligations.ImpactsAreJudgedByTheirWindow : Prop :=
  ∀ (s : State) (n : Fin 24), s.Awake →
    let r := s.strikerRecord n
    let c := s.channel n
    let put (x : Channel) : State := { s with stc := { s.stc with channels := s.stc.channels.set n x } }
    let stray : State := { s with stc := { s.stc with stray := s.stc.stray + 1 } }
    (r.sense = false → exec (.impactPulse n) s = .next s) ∧
    (r.sense = true → c.window = none → exec (.impactPulse n) s = .next stray) ∧
    (c.window = none → exec (.impactWindowEnd n) s = .next s) ∧
    (∀ x, c.window = some x →
      let e := signedDiff s.now x
      let half : Int := (r.impactWindow / 2 : Nat)
      let full : Int := r.impactWindow
      let quarter := if 0 ≤ e then e / 4 else -(-e / 4)
      let corrected :=
        if c.trim + quarter < -512 then -512 else if 511 < c.trim + quarter then 511 else c.trim + quarter
      let good : Channel :=
        { c with
          window := none, missRun := 0, outlierRun := 0
          trim := if r.adapt = true then corrected else c.trim }
      (r.sense = true → -half ≤ e → e ≤ half → exec (.impactPulse n) s = .next (put good)) ∧
      (r.sense = true → e < -half ∨ half < e → -full ≤ e → e ≤ full →
        (c.outlierRun < 2 → exec (.impactPulse n) s = .next
          (put { c with window := none, missRun := 0, outlierRun := c.outlierRun + 1 })) ∧
        (c.outlierRun = 2 → exec (.impactPulse n) s = .next
          ((put { c with window := none, missRun := 0, outlierRun := 0 }).report (.offTime n)))) ∧
      (r.sense = true → e < -full ∨ full < e → exec (.impactPulse n) s = .next stray) ∧
      (0 ≤ signedDiff (x + BitVec.ofNat 32 r.impactWindow) s.now →
        exec (.impactWindowEnd n) s = .next s) ∧
      (signedDiff (x + BitVec.ofNat 32 r.impactWindow) s.now < 0 →
        (c.missRun < 2 → exec (.impactWindowEnd n) s = .next
          (put { c with window := none, outlierRun := 0, missRun := c.missRun + 1 })) ∧
        (c.missRun = 2 → exec (.impactWindowEnd n) s = .next
          ((put { c with window := none, outlierRun := 0, missRun := 0 }).report (.noImpact n)))))

/-! ### Dampers and rotor -/

/-- A travel end brings a RELEASING damper to RELEASED and an ENGAGING one to ENGAGED, starts the hold of a choke
travel, and counts as performed if the travel was handed over; a hold's expiry starts a travel to RELEASED from the
expiry, which was not. Each only when the show clock has reached it (R86, R87; log entry 2). -/
def Obligations.TravelAndChokeHoldEnd : Prop :=
  ∀ (s : State) (d : Fin 4), s.Awake →
    let v := s.damper d
    let r := s.damperRecord d
    let put (x : Damper) : State := { s with dmc := { s.dmc with dampers := s.dmc.dampers.set d x } }
    let counted (x : Damper) : State :=
      { put x with
        sch :=
          { s.sch with
            damperPerformed :=
              if v.handedOver = true then s.sch.damperPerformed + 1 else s.sch.damperPerformed } }
    (v.travelEnd = none → exec (.travelEnd d) s = .next s) ∧
    (∀ t, v.travelEnd = some t →
      (0 < signedDiff t s.now → exec (.travelEnd d) s = .next s) ∧
      (signedDiff t s.now ≤ 0 →
        (v.state = .releasing → exec (.travelEnd d) s = .next
          (counted { v with state := .released, travelEnd := none, choke := false, handedOver := false })) ∧
        (v.state = .engaging → exec (.travelEnd d) s = .next
          (counted
            { v with
              state := .engaged, travelEnd := none, choke := false, handedOver := false
              hold := if v.choke = true then some (t + BitVec.ofNat 32 r.chokeHold) else v.hold })))) ∧
    (v.hold = none → exec (.chokeHoldExpiry d) s = .next s) ∧
    (∀ t, v.hold = some t →
      (0 < signedDiff t s.now → exec (.chokeHoldExpiry d) s = .next s) ∧
      (signedDiff t s.now ≤ 0 → exec (.chokeHoldExpiry d) s = .next
        (put
          { state := .releasing, coil := true, travelEnd := some (t + BitVec.ofNat 32 r.releaseTravel)
            choke := false, hold := none, handedOver := false })))

/-- A damper entry handed over within the tolerance is dropped and counted outside RUN, in CUT or at a disabled
damper. Otherwise it cancels a running hold. It starts or reverses a travel from now with the full travel time and
takes the coil with it at once, and a travel time of 0 ends at once; unless the damper is in the requested position or
on its way there: then it is counted as redundant, and a choke entry that found a hold running starts it again (R84 to
R87). It is what a DUE does with the head of the schedule; with the next entry after now, or none, it is all the DUE
does. -/
def Obligations.DueDamperEntryMovesItsDamper : Prop :=
  ∀ (s : State) (d : Fin 4) (x : Entry) (rest : List Entry) (a : DamperAction) (choke : Bool),
    s.Awake → s.sch.entries = x :: rest → x.work = .damper d a choke → signedDiff x.action s.now ≤ 0 →
    signedDiff s.now x.action ≤ s.node.lateTolerance →
    let v := s.damper d
    let r := s.damperRecord d
    let taken : State := { s with sch := { s.sch with entries := rest } }
    let last := ∀ y tail, rest = y :: tail → 0 < signedDiff y.action s.now
    let put (q : Sch) (y : Damper) : State :=
      { s with sch := { q with entries := rest }, dmc := { s.dmc with dampers := s.dmc.dampers.set d y } }
    let gives (t : State) := taken.handOver x = t ∧ (last → exec .due s = .next t)
    let passes := s.mdc.mode = .run ∧ s.sup.band ≠ .cut ∧ r.enabled = true
    let redundant : Sch := { s.sch with damperRedundant := s.sch.damperRedundant + 1 }
    let goesUp := v.state = .releasing ∨ v.state = .released
    let travels (time : Nat) (t : State) :=
      exec (.travelEnd d) t = .next (taken.handOver x) ∧ (last → exec .due s = exec (.travelEnd d) t) ∧
      (0 < time → time ≤ 65535 → gives t)
    (¬passes → gives (put { s.sch with damperDropped := s.sch.damperDropped + 1 } v)) ∧
    (passes → a = .release → goesUp → gives (put redundant { v with hold := none })) ∧
    (passes → a = .release → ¬goesUp → travels r.releaseTravel
      (put s.sch
        { state := .releasing, coil := true, travelEnd := some (s.now + BitVec.ofNat 32 r.releaseTravel)
          choke := choke, hold := none, handedOver := true })) ∧
    (passes → a = .engage → goesUp → travels r.engageTravel
      (put s.sch
        { state := .engaging, coil := false, travelEnd := some (s.now + BitVec.ofNat 32 r.engageTravel)
          choke := choke, hold := none, handedOver := true })) ∧
    (passes → a = .engage → ¬goesUp →
      gives
        (put redundant
          { v with
            hold :=
              if choke = true ∧ v.state = .engaged ∧ v.hold ≠ none then
                some (s.now + BitVec.ofNat 32 r.chokeHold)
              else none }))

/-- A rising edge takes the output high for half its period, fixes the period from the current rate and advances the
position; a falling edge takes it low for the rest. A pending align that is reached ends the cycle and puts the next
rising edge one period after now; at rest it has no effect on the output. An index pulse at another position than 0
stores and counts it and sets it to 0; without index enabled it is ignored. What has not fallen changes nothing
(R94 to R96; log entry 2). -/
def Obligations.RotorEdgesAlignAndIndex : Prop :=
  ∀ s : State, s.Awake →
    let r := s.rot
    let after (c : Instr) (x : Rot) := exec c s = .next { s with rot := x }
    let p := 100000 / r.current
    (r.cycle = none → after .stepRisingEdge r ∧ after .stepFallingEdge r) ∧
    (∀ c, r.cycle = some c →
      (0 < signedDiff c.nextChange s.now → after .stepRisingEdge r ∧ after .stepFallingEdge r) ∧
      (signedDiff c.nextChange s.now ≤ 0 → r.output = false →
        after .stepRisingEdge
            { r with
              output := true
              cycle := some { nextChange := c.nextChange + BitVec.ofNat 32 (p / 2), period := p }
              position := (r.position + 1) % s.node.stepsPerRev } ∧
          after .stepFallingEdge r) ∧
      (signedDiff c.nextChange s.now ≤ 0 → r.output = true →
        after .stepFallingEdge
            { r with
              output := false
              cycle :=
                some
                  { nextChange := c.nextChange + BitVec.ofNat 32 (c.period - c.period / 2)
                    period := c.period } } ∧
          after .stepRisingEdge r)) ∧
    (r.align = none → after .alignTakesEffect r) ∧
    (∀ t, r.align = some t →
      (0 < signedDiff t s.now → after .alignTakesEffect r) ∧
      (signedDiff t s.now ≤ 0 → r.current = 0 → after .alignTakesEffect { r with align := none }) ∧
      (signedDiff t s.now ≤ 0 → r.current ≠ 0 →
        after .alignTakesEffect
          { r with
            align := none, output := false
            cycle := some { nextChange := s.now + BitVec.ofNat 32 p, period := p } })) ∧
    (s.node.indexEnabled = false ∨ r.position = 0 → after .indexPulse r) ∧
    (s.node.indexEnabled = true → r.position ≠ 0 →
      after .indexPulse
        { r with
          lastIndexError := r.position, position := 0
          indexErrors := if r.indexErrors + 1 ≤ 65535 then r.indexErrors + 1 else 65535 })

/-- The ticks of local time. A ramp tick, 1,024 grains after the one before, moves the current rate toward the target
by at most the ramp step. From rest to a rate, a rising edge falls at the tick; from a rate to rest, the output goes
low and the cycle ends; between rates the running cycle goes on. A cooling tick lowers the heat of each of the 24
channels by its own K_c, to no less than 0, and nothing else. A blink boundary toggles the lamp output when it is not
at the level of its pattern, and a change of mode, list or classes shows the first line of the lamp's table that
applies (log entry 23). Before its instant each tick changes nothing (R72, R93 to R95, R144; log entry 2). -/
def Obligations.TicksOfLocalTimeAreTaken : Prop :=
  ∀ s : State, s.Awake →
    (s.localTime < s.stc.coolingNext → exec .coolingTick s = .next s) ∧
    (s.stc.coolingNext ≤ s.localTime → ∃ t, exec .coolingTick s = .next t ∧
      (∀ n : Fin 24, t.channel n =
        { s.channel n with heat := (s.channel n).heat - (s.strikerRecord n).cooling }) ∧
      t = { s with
            stc := { s.stc with channels := t.stc.channels, coolingNext := s.stc.coolingNext + 1024 * 16 } }) ∧
    (let due : Bool :=
       match s.svu.lamp with
       | .off => false
       | .steady => true
       | .slowBlink => decide (s.localTime % (100000 * 16) < 50000 * 16)
       | .fastBlink => decide (s.localTime % (25000 * 16) < 12500 * 16)
     exec .lampBlinkPhase s = .next { s with svu := { s.svu with lampOn := due } }) ∧
    (let class_ (x : FaultRecord) := s.effectiveClass x.pair.kind
     let shows : Lamp :=
       if s.mdc.mode = .safe ∨ s.mdc.mode = .lockedOut then .steady
       else if ∃ x ∈ s.svu.faults, class_ x = .hold ∨ class_ x = .recover then .fastBlink
       else if s.svu.faults = [] then .off
       else .slowBlink
     let level : Bool :=
       match shows with
       | .off => false
       | .steady => true
       | .slowBlink => decide (s.localTime % (100000 * 16) < 50000 * 16)
       | .fastBlink => decide (s.localTime % (25000 * 16) < 12500 * 16)
     s.refreshLamp =
       { s with
         svu :=
           { s.svu with lamp := shows, lampOn := if s.svu.lamp = shows then s.svu.lampOn else level } }) ∧
    let r := s.rot
    let n := s.node
    let after (x : Rot) := exec .rampTick s = .next { s with rot := x }
    let tick := r.rampNext + 1024 * 16
    let up := if r.current + n.rampStep < r.target then r.current + n.rampStep else r.target
    let down := if r.target < r.current - n.rampStep then r.current - n.rampStep else r.target
    let rate := if r.current < r.target then up else if r.target < r.current then down else r.current
    let p := 100000 / rate
    (s.localTime < r.rampNext → after r) ∧
    (r.rampNext ≤ s.localTime →
      (r.current = 0 → rate = 0 → after { r with current := rate, rampNext := tick }) ∧
      (r.current = 0 → rate ≠ 0 →
        after
          { r with
            current := rate, rampNext := tick, output := true
            cycle := some { nextChange := s.now + BitVec.ofNat 32 (p / 2), period := p }
            position := (r.position + 1) % n.stepsPerRev }) ∧
      (r.current ≠ 0 → rate = 0 →
        after { r with current := rate, rampNext := tick, output := false, cycle := none }) ∧
      (r.current ≠ 0 → rate ≠ 0 → after { r with current := rate, rampNext := tick }))

/-! ### The clock's own events -/

/-- A slew grain is taken when nothing else has fallen: the grain passes, the correction moves by one toward 0, and
the show clock advances by 2 or by 0. With a correction above 0 and nothing fixed at the grain skipped, the two
grains of show time are the whole effect; otherwise what is due at the grain skipped is handed over there, and no
drive that ends there goes on (R43, R66). Before its instant, or while something fallen is left to take, it changes
nothing (R101; log entries 1 and 2). -/
def Obligations.SlewGrainAdvancesTwoOrNone : Prop :=
  ∀ s : State, s.Awake →
    let past (slew : Int) (now : ShowTime) : State :=
      { s with
        localTime := s.localTime + 1
        scu := { s.scu with now := now, slew := slew, slewCount := s.scu.slewCount + 1 } }
    let ready := s.slewNext = true ∧ s.fallenEvents = []
    (¬ready → exec .slewGrain s = .next s) ∧
    (ready → s.scu.slew < 0 → exec .slewGrain s = .next (past (s.scu.slew + 1) s.scu.now)) ∧
    (ready → 0 < s.scu.slew → (past (s.scu.slew - 1) (s.scu.now + 1)).fallenShow = [] →
      exec .slewGrain s = .next (past (s.scu.slew - 1) (s.scu.now + 2))) ∧
    (ready → 0 < s.scu.slew → ∃ t, exec .slewGrain s = .next t ∧
      t.scu.now = s.scu.now + 2 ∧ t.scu.slew = s.scu.slew - 1 ∧ t.localTime = s.localTime + 1 ∧
      (t.resetting = s.resetting ∧ t.pending = s.pending) ∧
      (∀ x ∈ t.sch.entries, x ∈ s.sch.entries) ∧
      (∀ x rest, t.sch.entries = x :: rest → 0 < signedDiff x.action (s.scu.now + 1)) ∧
      (∀ n : Fin 24, ∀ d, (t.channel n).drive = some d →
        0 < signedDiff (d.start + BitVec.ofNat 32 d.width) (s.scu.now + 1)))

/-- 2 × Pm after the last mark a LOCKED clock goes to HOLDOVER, and the holdover limit after that to UNLOCKED with
CLOCK_LOST reported, the schedule flushed and a pending swap in effect, in this order (log entry 38, the model's
choice). A pending swap whose time is reached takes effect. The configuration timer's expiry in CONFIG reports
CONFIG_TIMEOUT and enters LOCKED_OUT, where no swap is pending and the pointer is closed. Before its instant each
changes nothing (R10, R11, R51, R106, R107, R154; log entry 2). -/
def Obligations.ClockAndTimerEventsAreTaken : Prop :=
  ∀ s : State, s.Awake →
    let swapped (t : Tbs) : Tbs :=
      { t with
        playBank := (match t.playBank with | .a => .b | .b => .a)
        pendingSwap := none
        pointer :=
          (match t.pointer with
           | none => none
           | some o =>
             if o.table = .note ∨ o.table = .curve ∨ o.table = .articulation then none else some o) }
    (let falls := s.scu.sync = .locked ∧
       ∃ t, s.scu.lastMark = some t ∧ t + 16 * (2 * s.node.markPeriod) ≤ s.localTime
     (falls → exec .supervisionDeadline s = .next
       { s with scu := { s.scu with sync := .holdover, holdoverStart := some s.localTime } }) ∧
     (¬falls → exec .supervisionDeadline s = .next s)) ∧
    (let falls := s.scu.sync = .holdover ∧
       ∃ t, s.scu.holdoverStart = some t ∧ t + 16 * s.node.holdoverLimit ≤ s.localTime
     let lost :=
       ({ s with
          scu :=
            { s.scu with
              sync := .unlocked, confidence := 0, slew := 0, holdoverStart := none } }.report
          .clockLost).flushSchedule
     (falls → s.tbs.pendingSwap = none → exec .holdoverExpiry s = .next lost) ∧
     (falls → s.tbs.pendingSwap ≠ none →
       exec .holdoverExpiry s = .next { lost with tbs := swapped lost.tbs }) ∧
     (¬falls → exec .holdoverExpiry s = .next s)) ∧
    (let falls := ∃ t, s.tbs.pendingSwap = some t ∧ signedDiff t s.now ≤ 0
     (falls → exec .swapTimeReached s = .next { s with tbs := swapped s.tbs }) ∧
     (¬falls → exec .swapTimeReached s = .next s)) ∧
    (let falls := s.mdc.mode = .config ∧ ∃ t, s.mdc.timer = some t ∧ t ≤ s.localTime
     let reported := { s with mdc := { s.mdc with timer := none } }.report .configTimeout
     (falls → exec .configTimeout s = .next
       { reported with
         mdc := { reported.mdc with mode := .lockedOut }
         dmc := { dampers := Vector.replicate 4 {} }
         rot := { s.rot with target := 0, current := 0, output := false, cycle := none, align := none }
         tbs := { s.tbs with pendingSwap := none, pointer := none }
         svu :=
           { reported.svu with
             lamp := .steady
             lampOn := if reported.svu.lamp = .steady then reported.svu.lampOn else true } }) ∧
     (¬falls → exec .configTimeout s = .next s))

/-! ### Supervision and supply -/

/-- A change of a driver fault input restarts the filter of its group, and the same level again changes nothing. A
level that has been held for 5 grains and that the condition does not have makes the condition start or end, with its
report; before that the expiry changes nothing (R146; log entries 2 and 18). -/
def Obligations.DriverFaultInputsAreFiltered : Prop :=
  ∀ (s : State) (g : Fin 3),
    (∀ level : Bool,
      (s.svu.driverInput[g] = level → exec (.driverFaultInputChange g level) s = .next s) ∧
      (s.svu.driverInput[g] ≠ level → exec (.driverFaultInputChange g level) s = .next
        { s with
          svu :=
            { s.svu with
              driverInput := s.svu.driverInput.set g level
              driverChanged := s.svu.driverChanged.set g s.localTime } })) ∧
    (s.Awake →
      let falls :=
        s.svu.driverInput[g] ≠ s.svu.driverFault[g] ∧ s.svu.driverChanged[g] + 5 * 16 ≤ s.localTime
      let now (x : Bool) : State := { s with svu := { s.svu with driverFault := s.svu.driverFault.set g x } }
      (¬falls → exec (.driverFaultFilterExpiry g) s = .next s) ∧
      (falls → s.svu.driverInput[g] = true →
        exec (.driverFaultFilterExpiry g) s = .next ((now true).report (.driverFault g))) ∧
      (falls → s.svu.driverInput[g] = false →
        exec (.driverFaultFilterExpiry g) s = .next ((now false).reportEnd (.driverFault g))))

/-- The level indicates a band by the table of its thresholds, seen from the present band. A changed indication is the
candidate from that moment, and none is left when the present band is indicated. A candidate indicated for the filter
time becomes the band, with its conditions starting or ending in the order of the table, the cut effects on entering
CUT and the clearing on leaving it; the level is then judged from the new band. Before that the expiry changes
nothing. The clearing removes every record of SUPPLY_LOW, SUPPLY_CUT and DRIVER_FAULT and keeps the others in order;
it releases every DRIVER_FAULT hold mark, but for a group whose condition is present with class HOLD; and it reports
again, in this order, SUPPLY_LOW unless the band is NORMAL, then the DRIVER_FAULT of groups 0, 1 and 2 if present (R140,
R147 to R149; log entries 2, 19 and 36). -/
def Obligations.SupplyLevelsMakeBands : Prop :=
  ∀ s : State,
    (∀ level : Nat,
      let n := s.node
      let low := n.lowThreshold + n.hysteresis
      let cut := n.cutThreshold + n.hysteresis
      indicatedBand n level .normal
          = (if level < n.cutThreshold then .cut else if level < n.lowThreshold then .low else .normal) ∧
        indicatedBand n level .low
          = (if level < n.cutThreshold then .cut else if low ≤ level then .normal else .low) ∧
        indicatedBand n level .cut
          = (if low ≤ level then .normal else if cut ≤ level then .low else .cut)) ∧
    s.indicated = indicatedBand s.node s.sup.level.toNat s.sup.band ∧
    s.evaluateSupply =
      { s with
        sup :=
          { s.sup with
            candidate :=
              if s.indicated = s.sup.band then none
              else
                match s.sup.candidate with
                | none => some { band := s.indicated, start := s.localTime }
                | some c =>
                  if c.band = s.indicated then some c
                  else some { band := s.indicated, start := s.localTime } } } ∧
    (∀ level : Byte, s.Awake →
      let x : State := { s with sup := { s.sup with level := level } }
      let after (c : Option Candidate) :=
        exec (.supplyLevelChange level) s = .next { x with sup := { x.sup with candidate := c } }
      (x.indicated = s.sup.band → after none) ∧
      (x.indicated ≠ s.sup.band →
        (∀ c, s.sup.candidate = some c → c.band = x.indicated → after (some c)) ∧
        ((∀ c, s.sup.candidate = some c → c.band ≠ x.indicated) →
          after (some { band := x.indicated, start := s.localTime })))) ∧
    (∀ level : Byte, ¬s.Awake → exec (.supplyLevelChange level) s = .next
      { s with sup := { s.sup with level := level } }) ∧
    (s.Awake → s.sup.candidate = none → exec .supplyFilterExpiry s = .next s) ∧
    (∀ c, s.Awake → s.sup.candidate = some c →
      let y : State := { s with sup := { s.sup with band := c.band, candidate := none } }
      let after (z : State) := exec .supplyFilterExpiry s = .next z.evaluateSupply
      let cutting (z : State) : State :=
        { z.stopActuators with
          sup := { z.sup with dips := if z.sup.dips + 1 ≤ 65535 then z.sup.dips + 1 else 65535 } }
      let was := s.sup.band
      (s.localTime < c.start + 16 * (100 * s.node.filterTime) → exec .supplyFilterExpiry s = .next s) ∧
      (c.start + 16 * (100 * s.node.filterTime) ≤ s.localTime →
        (was = .normal → c.band = .low → after (y.report .supplyLow)) ∧
        (was = .normal → c.band = .cut → after (cutting ((y.report .supplyLow).report .supplyCut))) ∧
        (was = .low → c.band = .cut → after (cutting (y.report .supplyCut))) ∧
        (was = .low → c.band = .normal → after (y.reportEnd .supplyLow)) ∧
        (was = .cut → c.band = .low → after (y.reportEnd .supplyCut).clearAfterCut) ∧
        (was = .cut → c.band = .normal →
          after ((y.reportEnd .supplyCut).reportEnd .supplyLow).clearAfterCut))) ∧
    (let kept := s.svu.faults.filter fun (x : FaultRecord) =>
       decide
         (x.pair.kind ≠ .supplyLow ∧ x.pair.kind ≠ .supplyCut ∧ x.pair.kind ≠ .driverFault)
     let holds (g : Fin 3) : Bool :=
       s.svu.driverFault[g] && decide (s.effectiveClass .driverFault = ReactionClass.hold)
     let removed : State :=
       { s with
         svu := { s.svu with faults := kept }
         stc :=
           { s.stc with
             channels := tabulate fun n =>
               let c := s.stc.channels[n]
               { c with
                 marks :=
                   { c.marks with driverFault := c.marks.driverFault && holds (groupOf n) } } } }.refreshLamp
     let again : List FaultPair :=
       (if s.sup.band = .normal then [] else [.supplyLow])
         ++ (if s.svu.driverFault[0] = true then [.driverFault 0] else [])
         ++ (if s.svu.driverFault[1] = true then [.driverFault 1] else [])
         ++ (if s.svu.driverFault[2] = true then [.driverFault 2] else [])
     s.clearAfterCut = again.foldl (fun x q => x.report q) removed)

/-- A report of a pair that has a record updates it in its place; otherwise, with fewer than 8 records, it is appended
at the end (and copied into an empty first-fault record), the lamp follows, and a NOTICE with the record is asked for
if the node's and the item's notices are enabled: it joins the answer queue behind the node's position, or with 8
waiting is discarded and counted. With 8 records it is not stored and counted as overflow. In each case the reaction of
the effective class follows: the class loaded, with RECOVER of an event taken as HOLD and a class that is not allowed
for the kind taken as WARN (R131, R136, R137, R139, R142, R143). The unnamed bits of the NOTICE's flags byte are 0 (log
entry 37, the model's choice). -/
def Obligations.ReportsAreStoredAndReactedTo : Prop :=
  ∀ (s : State) (p : FaultPair),
    let listed := ∃ r ∈ s.svu.faults, r.pair = p
    let condition := p.kind.isCondition
    let notLocked := decide (s.scu.sync = .unlocked ∨ s.scu.sync = .acquiring)
    let r : FaultRecord :=
      { pair := p, firstSeen := s.now, lastSeen := s.now, occurrences := 1, active := condition
        clockNotLocked := notLocked }
    let code : Byte := BitVec.ofNat 8 p.kind.item.val
    let flags : Byte :=
      if condition = true then (if notLocked = true then 7 else 3) else if notLocked = true then 4 else 0
    let notice : Frame :=
      ⟨0x41,
        s.liu.position :: code :: p.subject :: flags :: (bytes4 s.now ++ bytes4 s.now ++ [0x00, 0x01])⟩
    let stored : State :=
      { s with
        svu :=
          { s.svu with
            faults := s.svu.faults ++ [r]
            first := (match s.svu.first with | some x => some x | none => some r) } }.refreshLamp
    let noticed : State :=
      if s.node.notices = true ∧ s.tbs.supervision[p.kind.item].notice = true then
        if s.liu.answer.length < 8 then
          { stored with liu := { s.liu with answer := s.liu.answer ++ [notice] } }.kickReturn
        else
          { stored with
            liu :=
              { s.liu with
                counters := { s.liu.counters with noticeDiscards := s.liu.counters.noticeDiscards + 1 } } }
      else stored
    readPair code p.subject = some p ∧ s.newRecord p = r ∧
    (∀ k : FaultKind, s.effectiveClass k = k.effective s.tbs.supervision[k.item].reaction) ∧
    (listed → s.report p =
      { s with
        svu :=
          { s.svu with
            faults := s.svu.faults.map fun (x : FaultRecord) =>
              if x.pair = p then
                { x with
                  lastSeen := s.now, active := condition
                  occurrences := if x.occurrences + 1 ≤ 65535 then x.occurrences + 1 else 65535 }
              else x } }.react p) ∧
    (¬listed → s.svu.faults.length < 8 → s.report p = noticed.react p) ∧
    (¬listed → 8 ≤ s.svu.faults.length → s.report p =
      { s with
        svu :=
          { s.svu with overflow := if s.svu.overflow + 1 ≤ 255 then s.svu.overflow + 1 else 255 } }.react p) ∧
    (∀ (k : FaultKind) (c : ReactionClass),
      (k = .noImpact ∨ k = .offTime → k.effective c = if c = .recover then .hold else c) ∧
      (k = .driverFault → k.effective c = c) ∧
      (k = .clockLost ∨ k = .linkErrors → k.effective c = if c = .halt then .halt else .warn) ∧
      (k ≠ .noImpact → k ≠ .offTime → k ≠ .driverFault → k ≠ .clockLost → k ≠ .linkErrors →
        k.effective c = .warn))

/-- What a report does at the marks and at the mode. Its reaction is that of the effective class of its kind: WARN
does nothing; HALT takes RUN into SAFE and does nothing in any other mode; HOLD of NO_IMPACT or OFF_TIME marks the
striker and ends its recovery, while a drive runs on; HOLD, or RECOVER, of a DRIVER_FAULT sets the hold mark, or the
suspend mark, of each of the group's eight channels that has it not yet, ending its recovery and truncating its drive
with the time driven added to the heat and the window cancelled. The end of a condition clears the active field of its
record, and that of a DRIVER_FAULT the suspend marks of its group too. A release takes the pair's hold mark from every
channel that holds it (R67 to R70, R138 to R140). -/
def Obligations.ReactionsActByTheEffectiveClass : Prop :=
  ∀ (s : State) (p : FaultPair),
    let cls := s.effectiveClass p.kind
    let channels (x : State) (f : Fin 24 → Channel → Channel) : State :=
      { x with stc := { x.stc with channels := tabulate fun n => f n x.stc.channels[n] } }
    let stopped (n : Fin 24) (c : Channel) : Channel :=
      match c.drive with
      | none => { c with recoveryEnd := none }
      | some d =>
        { c with
          output := false, drive := none, recoveryEnd := none, window := none
          heat :=
            min 65535
              (c.heat + (d.width - (signedDiff (d.start + BitVec.ofNat 32 d.width) s.now).toNat)) }
    let ended : State :=
      { s with
        svu :=
          { s.svu with
            faults := s.svu.faults.map fun (x : FaultRecord) =>
              if x.pair = p then { x with active := false } else x } }
    (∀ n : Fin 24, (groupOf n).val = n.val / 8) ∧
    (cls = .warn → s.react p = s) ∧
    (cls = .halt → s.mdc.mode = .run → s.react p = s.enterSafe) ∧
    (cls = .halt → s.mdc.mode ≠ .run → s.react p = s) ∧
    (∀ m : Fin 24,
      (cls = .hold → p = .noImpact m → s.react p
        = channels s fun n c =>
            if n = m then { c with marks := { c.marks with noImpact := true }, recoveryEnd := none } else c) ∧
      (cls = .hold → p = .offTime m → s.react p
        = channels s fun n c =>
            if n = m then { c with marks := { c.marks with offTime := true }, recoveryEnd := none } else c)) ∧
    (∀ g : Fin 3,
      (cls = .hold → p = .driverFault g → s.react p
        = channels s fun n c =>
            if n.val / 8 = g.val ∧ c.marks.driverFault = false then
              stopped n { c with marks := { c.marks with driverFault := true } }
            else c) ∧
      (cls = .recover → p = .driverFault g → s.react p
        = channels s fun n c =>
            if n.val / 8 = g.val ∧ c.suspended = false then stopped n { c with suspended := true } else c) ∧
      (p = .driverFault g → s.reportEnd p
        = channels ended fun n c => if n.val / 8 = g.val then { c with suspended := false } else c)) ∧
    ((∀ g, p ≠ .driverFault g) → s.reportEnd p = ended) ∧
    s.releasePair p
      = channels s fun n c =>
          { c with
            marks :=
              { noImpact := c.marks.noImpact && decide (p ≠ .noImpact n)
                offTime := c.marks.offTime && decide (p ≠ .offTime n)
                driverFault := c.marks.driverFault && decide (p ≠ .driverFault (groupOf n)) } }

/-! ### Laws that every step keeps -/

/-- Nothing moves outside RUN, in CUT or in a reset: every step keeps the law of the outputs (R67, R83, R88, R97,
R159). -/
def Obligations.OutputLawIsKept : Prop :=
  ∀ s t : State, s.OutputLaw → step s = .next t → t.OutputLaw

/-- Every step keeps the schedule in order, within its capacity and horizon, and empty outside RUN, given the ranges
of the stored tables and of the running drives (R39, R40, R50). -/
def Obligations.ScheduleLawIsKept : Prop :=
  ∀ s t : State, s.StoredLaw → s.StrikerLaw → s.ScheduleLaw → step s = .next t → t.ScheduleLaw

/-- No two pending strike entries of one striker have overlapping reserved windows, and none has its drive start
before that striker's busy-until: every step keeps it, in states that have the laws of the schedule, of the stored
items and of the load pointer (R42). -/
def Obligations.PendingWindowsNeverOverlap : Prop :=
  ∀ s t : State, s.StoredLaw → s.PointerLaw → s.ScheduleLaw → s.WindowLaw → step s = .next t → t.WindowLaw

/-- The strike counters account for every accepted strike: after reset and after CLEAR statistics, and kept by every
step, accepted = pending strike entries + started + dropped-at-due + flushed modulo 2^32, dropped-at-due being the sum
of its six counters; and an accepted strike entry is counted on insertion (R53). -/
def Obligations.EveryAcceptedStrikeIsAccountedFor : Prop :=
  (∀ s : State, s.Conserves ↔
    s.sch.accepted =
      BitVec.ofNat 32 (s.sch.entries.countP Entry.isStrike) + s.sch.started
        + (s.sch.dropped.late + s.sch.dropped.busy + s.sch.dropped.outOfService + s.sch.dropped.hot
            + s.sch.dropped.noSupply + s.sch.dropped.quieted)
        + s.sch.flushed) ∧
  State.reset.Conserves ∧
  (∀ s : State, s.clearStatistics.Conserves) ∧
  (∀ (s : State) (es : List Entry),
    (s.onSch (Sch.insertAll es)).sch.accepted
      = s.sch.accepted + BitVec.ofNat 32 (es.countP Entry.isStrike)) ∧
  (∀ s t : State, s.Conserves → step s = .next t → t.Conserves)

/-- Every step keeps the capacities of the queues and of the fault list, MARKs before other copies, one record at
most of each pair, and the lamp as mode, fault list and reaction classes have it (R126, R130, R131, R137, R144). -/
def Obligations.QueueAndLampLawsAreKept : Prop :=
  (∀ s t : State, s.QueueLaw → step s = .next t → t.QueueLaw) ∧
  (∀ s t : State, s.LampLaw → step s = .next t → t.LampLaw)

/-- Every step keeps each channel in its ranges, and no drive runs longer than the striker's maximum width (R61, R66,
R71, R75, R77). -/
def Obligations.NoDriveRunsPastItsWidth : Prop :=
  ∀ s t : State, s.StoredLaw → s.StrikerLaw → step s = .next t → t.StrikerLaw

/-- Every step keeps the clock's law, and the law of the load pointer and of a pending swap (R10, R101 to R107, R154,
R164). That the holdover start is none exactly outside HOLDOVER is the model's reading (log entry 13). -/
def Obligations.ClockAndPointerLawsAreKept : Prop :=
  (∀ s t : State, s.ClockLaw → step s = .next t → t.ClockLaw) ∧
  (∀ s t : State, s.PointerLaw → step s = .next t → t.PointerLaw)

/-- Every step keeps the rotor's law, and every stored item the correction of its own canonical bytes (R92 to R95,
R177). -/
def Obligations.RotorAndStoredLawsAreKept : Prop :=
  (∀ s t : State, s.StoredLaw → s.RotorLaw → step s = .next t → t.RotorLaw) ∧
  (∀ s t : State, s.StoredLaw → step s = .next t → t.StoredLaw)

/-- The mode changes only as the manual's table has it, and in LOCKED_OUT no table changes: out of it leads only the
end of a reset (IDLE to SAFE is a COMMIT whose re-added condition has class HALT, log entry 20). Show time never
steps while the clock stays LOCKED or in HOLDOVER: a step of the block advances it by 0, 1 or 2 grains (R107, R151,
R154). -/
def Obligations.ModesChangeByTheirTable : Prop :=
  ∀ s t : State, s.PointerLaw → step s = .next t →
    (t.mdc.mode = s.mdc.mode ∨ (s.resetting ≠ none ∧ t.mdc.mode = .idle) ∨
      (s.mdc.mode = .idle ∧ (t.mdc.mode = .config ∨ t.mdc.mode = .run ∨ t.mdc.mode = .safe)) ∨
      (s.mdc.mode = .config ∧ (t.mdc.mode = .run ∨ t.mdc.mode = .safe ∨ t.mdc.mode = .lockedOut)) ∨
      (s.mdc.mode = .run ∧ t.mdc.mode = .safe) ∨ (s.mdc.mode = .safe ∧ t.mdc.mode = .run)) ∧
    (s.mdc.mode = .lockedOut → t.mdc.mode = .lockedOut →
      t.tbs = { s.tbs with
                loadDiscards := t.tbs.loadDiscards, swapCancellations := t.tbs.swapCancellations }) ∧
    (s.scu.sync = .locked ∨ s.scu.sync = .holdover → t.scu.sync = .locked ∨ t.scu.sync = .holdover →
      t.scu.now = s.scu.now ∨ t.scu.now = s.scu.now + 1 ∨ t.scu.now = s.scu.now + 2)
end

