-- ==== Sys2Proof/Laws/State.lean ====
section
/-! SUPPORT. What the named updates of the state change, field by field: no later proof unfolds a record
update. -/
namespace Sys2Proof.Machine

/-! ### Updates of one block -/

@[simp] theorem State.onScu_scu (f : Scu → Scu) (s : State) : (s.onScu f).scu = f s.scu := rfl
@[simp] theorem State.onScu_pdu (f : Scu → Scu) (s : State) : (s.onScu f).pdu = s.pdu := rfl
@[simp] theorem State.onScu_liu (f : Scu → Scu) (s : State) : (s.onScu f).liu = s.liu := rfl
@[simp] theorem State.onScu_tbs (f : Scu → Scu) (s : State) : (s.onScu f).tbs = s.tbs := rfl
@[simp] theorem State.onScu_acu (f : Scu → Scu) (s : State) : (s.onScu f).acu = s.acu := rfl
@[simp] theorem State.onScu_sch (f : Scu → Scu) (s : State) : (s.onScu f).sch = s.sch := rfl
@[simp] theorem State.onScu_stc (f : Scu → Scu) (s : State) : (s.onScu f).stc = s.stc := rfl
@[simp] theorem State.onScu_dmc (f : Scu → Scu) (s : State) : (s.onScu f).dmc = s.dmc := rfl
@[simp] theorem State.onScu_rot (f : Scu → Scu) (s : State) : (s.onScu f).rot = s.rot := rfl
@[simp] theorem State.onScu_sup (f : Scu → Scu) (s : State) : (s.onScu f).sup = s.sup := rfl
@[simp] theorem State.onScu_svu (f : Scu → Scu) (s : State) : (s.onScu f).svu = s.svu := rfl
@[simp] theorem State.onScu_mdc (f : Scu → Scu) (s : State) : (s.onScu f).mdc = s.mdc := rfl
@[simp] theorem State.onScu_localTime (f : Scu → Scu) (s : State) : (s.onScu f).localTime = s.localTime := rfl
@[simp] theorem State.onScu_resetting (f : Scu → Scu) (s : State) : (s.onScu f).resetting = s.resetting := rfl
@[simp] theorem State.onScu_lineAsserted (f : Scu → Scu) (s : State) : (s.onScu f).lineAsserted = s.lineAsserted := rfl
@[simp] theorem State.onScu_pending (f : Scu → Scu) (s : State) : (s.onScu f).pending = s.pending := rfl
@[simp] theorem State.onScu_choices (f : Scu → Scu) (s : State) : (s.onScu f).choices = s.choices := rfl

@[simp] theorem State.onPdu_scu (f : Pdu → Pdu) (s : State) : (s.onPdu f).scu = s.scu := rfl
@[simp] theorem State.onPdu_pdu (f : Pdu → Pdu) (s : State) : (s.onPdu f).pdu = f s.pdu := rfl
@[simp] theorem State.onPdu_liu (f : Pdu → Pdu) (s : State) : (s.onPdu f).liu = s.liu := rfl
@[simp] theorem State.onPdu_tbs (f : Pdu → Pdu) (s : State) : (s.onPdu f).tbs = s.tbs := rfl
@[simp] theorem State.onPdu_acu (f : Pdu → Pdu) (s : State) : (s.onPdu f).acu = s.acu := rfl
@[simp] theorem State.onPdu_sch (f : Pdu → Pdu) (s : State) : (s.onPdu f).sch = s.sch := rfl
@[simp] theorem State.onPdu_stc (f : Pdu → Pdu) (s : State) : (s.onPdu f).stc = s.stc := rfl
@[simp] theorem State.onPdu_dmc (f : Pdu → Pdu) (s : State) : (s.onPdu f).dmc = s.dmc := rfl
@[simp] theorem State.onPdu_rot (f : Pdu → Pdu) (s : State) : (s.onPdu f).rot = s.rot := rfl
@[simp] theorem State.onPdu_sup (f : Pdu → Pdu) (s : State) : (s.onPdu f).sup = s.sup := rfl
@[simp] theorem State.onPdu_svu (f : Pdu → Pdu) (s : State) : (s.onPdu f).svu = s.svu := rfl
@[simp] theorem State.onPdu_mdc (f : Pdu → Pdu) (s : State) : (s.onPdu f).mdc = s.mdc := rfl
@[simp] theorem State.onPdu_localTime (f : Pdu → Pdu) (s : State) : (s.onPdu f).localTime = s.localTime := rfl
@[simp] theorem State.onPdu_resetting (f : Pdu → Pdu) (s : State) : (s.onPdu f).resetting = s.resetting := rfl
@[simp] theorem State.onPdu_lineAsserted (f : Pdu → Pdu) (s : State) : (s.onPdu f).lineAsserted = s.lineAsserted := rfl
@[simp] theorem State.onPdu_pending (f : Pdu → Pdu) (s : State) : (s.onPdu f).pending = s.pending := rfl
@[simp] theorem State.onPdu_choices (f : Pdu → Pdu) (s : State) : (s.onPdu f).choices = s.choices := rfl

@[simp] theorem State.onLiu_scu (f : Liu → Liu) (s : State) : (s.onLiu f).scu = s.scu := rfl
@[simp] theorem State.onLiu_pdu (f : Liu → Liu) (s : State) : (s.onLiu f).pdu = s.pdu := rfl
@[simp] theorem State.onLiu_liu (f : Liu → Liu) (s : State) : (s.onLiu f).liu = f s.liu := rfl
@[simp] theorem State.onLiu_tbs (f : Liu → Liu) (s : State) : (s.onLiu f).tbs = s.tbs := rfl
@[simp] theorem State.onLiu_acu (f : Liu → Liu) (s : State) : (s.onLiu f).acu = s.acu := rfl
@[simp] theorem State.onLiu_sch (f : Liu → Liu) (s : State) : (s.onLiu f).sch = s.sch := rfl
@[simp] theorem State.onLiu_stc (f : Liu → Liu) (s : State) : (s.onLiu f).stc = s.stc := rfl
@[simp] theorem State.onLiu_dmc (f : Liu → Liu) (s : State) : (s.onLiu f).dmc = s.dmc := rfl
@[simp] theorem State.onLiu_rot (f : Liu → Liu) (s : State) : (s.onLiu f).rot = s.rot := rfl
@[simp] theorem State.onLiu_sup (f : Liu → Liu) (s : State) : (s.onLiu f).sup = s.sup := rfl
@[simp] theorem State.onLiu_svu (f : Liu → Liu) (s : State) : (s.onLiu f).svu = s.svu := rfl
@[simp] theorem State.onLiu_mdc (f : Liu → Liu) (s : State) : (s.onLiu f).mdc = s.mdc := rfl
@[simp] theorem State.onLiu_localTime (f : Liu → Liu) (s : State) : (s.onLiu f).localTime = s.localTime := rfl
@[simp] theorem State.onLiu_resetting (f : Liu → Liu) (s : State) : (s.onLiu f).resetting = s.resetting := rfl
@[simp] theorem State.onLiu_lineAsserted (f : Liu → Liu) (s : State) : (s.onLiu f).lineAsserted = s.lineAsserted := rfl
@[simp] theorem State.onLiu_pending (f : Liu → Liu) (s : State) : (s.onLiu f).pending = s.pending := rfl
@[simp] theorem State.onLiu_choices (f : Liu → Liu) (s : State) : (s.onLiu f).choices = s.choices := rfl

@[simp] theorem State.onTbs_scu (f : Tbs → Tbs) (s : State) : (s.onTbs f).scu = s.scu := rfl
@[simp] theorem State.onTbs_pdu (f : Tbs → Tbs) (s : State) : (s.onTbs f).pdu = s.pdu := rfl
@[simp] theorem State.onTbs_liu (f : Tbs → Tbs) (s : State) : (s.onTbs f).liu = s.liu := rfl
@[simp] theorem State.onTbs_tbs (f : Tbs → Tbs) (s : State) : (s.onTbs f).tbs = f s.tbs := rfl
@[simp] theorem State.onTbs_acu (f : Tbs → Tbs) (s : State) : (s.onTbs f).acu = s.acu := rfl
@[simp] theorem State.onTbs_sch (f : Tbs → Tbs) (s : State) : (s.onTbs f).sch = s.sch := rfl
@[simp] theorem State.onTbs_stc (f : Tbs → Tbs) (s : State) : (s.onTbs f).stc = s.stc := rfl
@[simp] theorem State.onTbs_dmc (f : Tbs → Tbs) (s : State) : (s.onTbs f).dmc = s.dmc := rfl
@[simp] theorem State.onTbs_rot (f : Tbs → Tbs) (s : State) : (s.onTbs f).rot = s.rot := rfl
@[simp] theorem State.onTbs_sup (f : Tbs → Tbs) (s : State) : (s.onTbs f).sup = s.sup := rfl
@[simp] theorem State.onTbs_svu (f : Tbs → Tbs) (s : State) : (s.onTbs f).svu = s.svu := rfl
@[simp] theorem State.onTbs_mdc (f : Tbs → Tbs) (s : State) : (s.onTbs f).mdc = s.mdc := rfl
@[simp] theorem State.onTbs_localTime (f : Tbs → Tbs) (s : State) : (s.onTbs f).localTime = s.localTime := rfl
@[simp] theorem State.onTbs_resetting (f : Tbs → Tbs) (s : State) : (s.onTbs f).resetting = s.resetting := rfl
@[simp] theorem State.onTbs_lineAsserted (f : Tbs → Tbs) (s : State) : (s.onTbs f).lineAsserted = s.lineAsserted := rfl
@[simp] theorem State.onTbs_pending (f : Tbs → Tbs) (s : State) : (s.onTbs f).pending = s.pending := rfl
@[simp] theorem State.onTbs_choices (f : Tbs → Tbs) (s : State) : (s.onTbs f).choices = s.choices := rfl

@[simp] theorem State.onAcu_scu (f : Acu → Acu) (s : State) : (s.onAcu f).scu = s.scu := rfl
@[simp] theorem State.onAcu_pdu (f : Acu → Acu) (s : State) : (s.onAcu f).pdu = s.pdu := rfl
@[simp] theorem State.onAcu_liu (f : Acu → Acu) (s : State) : (s.onAcu f).liu = s.liu := rfl
@[simp] theorem State.onAcu_tbs (f : Acu → Acu) (s : State) : (s.onAcu f).tbs = s.tbs := rfl
@[simp] theorem State.onAcu_acu (f : Acu → Acu) (s : State) : (s.onAcu f).acu = f s.acu := rfl
@[simp] theorem State.onAcu_sch (f : Acu → Acu) (s : State) : (s.onAcu f).sch = s.sch := rfl
@[simp] theorem State.onAcu_stc (f : Acu → Acu) (s : State) : (s.onAcu f).stc = s.stc := rfl
@[simp] theorem State.onAcu_dmc (f : Acu → Acu) (s : State) : (s.onAcu f).dmc = s.dmc := rfl
@[simp] theorem State.onAcu_rot (f : Acu → Acu) (s : State) : (s.onAcu f).rot = s.rot := rfl
@[simp] theorem State.onAcu_sup (f : Acu → Acu) (s : State) : (s.onAcu f).sup = s.sup := rfl
@[simp] theorem State.onAcu_svu (f : Acu → Acu) (s : State) : (s.onAcu f).svu = s.svu := rfl
@[simp] theorem State.onAcu_mdc (f : Acu → Acu) (s : State) : (s.onAcu f).mdc = s.mdc := rfl
@[simp] theorem State.onAcu_localTime (f : Acu → Acu) (s : State) : (s.onAcu f).localTime = s.localTime := rfl
@[simp] theorem State.onAcu_resetting (f : Acu → Acu) (s : State) : (s.onAcu f).resetting = s.resetting := rfl
@[simp] theorem State.onAcu_lineAsserted (f : Acu → Acu) (s : State) : (s.onAcu f).lineAsserted = s.lineAsserted := rfl
@[simp] theorem State.onAcu_pending (f : Acu → Acu) (s : State) : (s.onAcu f).pending = s.pending := rfl
@[simp] theorem State.onAcu_choices (f : Acu → Acu) (s : State) : (s.onAcu f).choices = s.choices := rfl

@[simp] theorem State.onSch_scu (f : Sch → Sch) (s : State) : (s.onSch f).scu = s.scu := rfl
@[simp] theorem State.onSch_pdu (f : Sch → Sch) (s : State) : (s.onSch f).pdu = s.pdu := rfl
@[simp] theorem State.onSch_liu (f : Sch → Sch) (s : State) : (s.onSch f).liu = s.liu := rfl
@[simp] theorem State.onSch_tbs (f : Sch → Sch) (s : State) : (s.onSch f).tbs = s.tbs := rfl
@[simp] theorem State.onSch_acu (f : Sch → Sch) (s : State) : (s.onSch f).acu = s.acu := rfl
@[simp] theorem State.onSch_sch (f : Sch → Sch) (s : State) : (s.onSch f).sch = f s.sch := rfl
@[simp] theorem State.onSch_stc (f : Sch → Sch) (s : State) : (s.onSch f).stc = s.stc := rfl
@[simp] theorem State.onSch_dmc (f : Sch → Sch) (s : State) : (s.onSch f).dmc = s.dmc := rfl
@[simp] theorem State.onSch_rot (f : Sch → Sch) (s : State) : (s.onSch f).rot = s.rot := rfl
@[simp] theorem State.onSch_sup (f : Sch → Sch) (s : State) : (s.onSch f).sup = s.sup := rfl
@[simp] theorem State.onSch_svu (f : Sch → Sch) (s : State) : (s.onSch f).svu = s.svu := rfl
@[simp] theorem State.onSch_mdc (f : Sch → Sch) (s : State) : (s.onSch f).mdc = s.mdc := rfl
@[simp] theorem State.onSch_localTime (f : Sch → Sch) (s : State) : (s.onSch f).localTime = s.localTime := rfl
@[simp] theorem State.onSch_resetting (f : Sch → Sch) (s : State) : (s.onSch f).resetting = s.resetting := rfl
@[simp] theorem State.onSch_lineAsserted (f : Sch → Sch) (s : State) : (s.onSch f).lineAsserted = s.lineAsserted := rfl
@[simp] theorem State.onSch_pending (f : Sch → Sch) (s : State) : (s.onSch f).pending = s.pending := rfl
@[simp] theorem State.onSch_choices (f : Sch → Sch) (s : State) : (s.onSch f).choices = s.choices := rfl

@[simp] theorem State.onStc_scu (f : Stc → Stc) (s : State) : (s.onStc f).scu = s.scu := rfl
@[simp] theorem State.onStc_pdu (f : Stc → Stc) (s : State) : (s.onStc f).pdu = s.pdu := rfl
@[simp] theorem State.onStc_liu (f : Stc → Stc) (s : State) : (s.onStc f).liu = s.liu := rfl
@[simp] theorem State.onStc_tbs (f : Stc → Stc) (s : State) : (s.onStc f).tbs = s.tbs := rfl
@[simp] theorem State.onStc_acu (f : Stc → Stc) (s : State) : (s.onStc f).acu = s.acu := rfl
@[simp] theorem State.onStc_sch (f : Stc → Stc) (s : State) : (s.onStc f).sch = s.sch := rfl
@[simp] theorem State.onStc_stc (f : Stc → Stc) (s : State) : (s.onStc f).stc = f s.stc := rfl
@[simp] theorem State.onStc_dmc (f : Stc → Stc) (s : State) : (s.onStc f).dmc = s.dmc := rfl
@[simp] theorem State.onStc_rot (f : Stc → Stc) (s : State) : (s.onStc f).rot = s.rot := rfl
@[simp] theorem State.onStc_sup (f : Stc → Stc) (s : State) : (s.onStc f).sup = s.sup := rfl
@[simp] theorem State.onStc_svu (f : Stc → Stc) (s : State) : (s.onStc f).svu = s.svu := rfl
@[simp] theorem State.onStc_mdc (f : Stc → Stc) (s : State) : (s.onStc f).mdc = s.mdc := rfl
@[simp] theorem State.onStc_localTime (f : Stc → Stc) (s : State) : (s.onStc f).localTime = s.localTime := rfl
@[simp] theorem State.onStc_resetting (f : Stc → Stc) (s : State) : (s.onStc f).resetting = s.resetting := rfl
@[simp] theorem State.onStc_lineAsserted (f : Stc → Stc) (s : State) : (s.onStc f).lineAsserted = s.lineAsserted := rfl
@[simp] theorem State.onStc_pending (f : Stc → Stc) (s : State) : (s.onStc f).pending = s.pending := rfl
@[simp] theorem State.onStc_choices (f : Stc → Stc) (s : State) : (s.onStc f).choices = s.choices := rfl

@[simp] theorem State.onDmc_scu (f : Dmc → Dmc) (s : State) : (s.onDmc f).scu = s.scu := rfl
@[simp] theorem State.onDmc_pdu (f : Dmc → Dmc) (s : State) : (s.onDmc f).pdu = s.pdu := rfl
@[simp] theorem State.onDmc_liu (f : Dmc → Dmc) (s : State) : (s.onDmc f).liu = s.liu := rfl
@[simp] theorem State.onDmc_tbs (f : Dmc → Dmc) (s : State) : (s.onDmc f).tbs = s.tbs := rfl
@[simp] theorem State.onDmc_acu (f : Dmc → Dmc) (s : State) : (s.onDmc f).acu = s.acu := rfl
@[simp] theorem State.onDmc_sch (f : Dmc → Dmc) (s : State) : (s.onDmc f).sch = s.sch := rfl
@[simp] theorem State.onDmc_stc (f : Dmc → Dmc) (s : State) : (s.onDmc f).stc = s.stc := rfl
@[simp] theorem State.onDmc_dmc (f : Dmc → Dmc) (s : State) : (s.onDmc f).dmc = f s.dmc := rfl
@[simp] theorem State.onDmc_rot (f : Dmc → Dmc) (s : State) : (s.onDmc f).rot = s.rot := rfl
@[simp] theorem State.onDmc_sup (f : Dmc → Dmc) (s : State) : (s.onDmc f).sup = s.sup := rfl
@[simp] theorem State.onDmc_svu (f : Dmc → Dmc) (s : State) : (s.onDmc f).svu = s.svu := rfl
@[simp] theorem State.onDmc_mdc (f : Dmc → Dmc) (s : State) : (s.onDmc f).mdc = s.mdc := rfl
@[simp] theorem State.onDmc_localTime (f : Dmc → Dmc) (s : State) : (s.onDmc f).localTime = s.localTime := rfl
@[simp] theorem State.onDmc_resetting (f : Dmc → Dmc) (s : State) : (s.onDmc f).resetting = s.resetting := rfl
@[simp] theorem State.onDmc_lineAsserted (f : Dmc → Dmc) (s : State) : (s.onDmc f).lineAsserted = s.lineAsserted := rfl
@[simp] theorem State.onDmc_pending (f : Dmc → Dmc) (s : State) : (s.onDmc f).pending = s.pending := rfl
@[simp] theorem State.onDmc_choices (f : Dmc → Dmc) (s : State) : (s.onDmc f).choices = s.choices := rfl

@[simp] theorem State.onRot_scu (f : Rot → Rot) (s : State) : (s.onRot f).scu = s.scu := rfl
@[simp] theorem State.onRot_pdu (f : Rot → Rot) (s : State) : (s.onRot f).pdu = s.pdu := rfl
@[simp] theorem State.onRot_liu (f : Rot → Rot) (s : State) : (s.onRot f).liu = s.liu := rfl
@[simp] theorem State.onRot_tbs (f : Rot → Rot) (s : State) : (s.onRot f).tbs = s.tbs := rfl
@[simp] theorem State.onRot_acu (f : Rot → Rot) (s : State) : (s.onRot f).acu = s.acu := rfl
@[simp] theorem State.onRot_sch (f : Rot → Rot) (s : State) : (s.onRot f).sch = s.sch := rfl
@[simp] theorem State.onRot_stc (f : Rot → Rot) (s : State) : (s.onRot f).stc = s.stc := rfl
@[simp] theorem State.onRot_dmc (f : Rot → Rot) (s : State) : (s.onRot f).dmc = s.dmc := rfl
@[simp] theorem State.onRot_rot (f : Rot → Rot) (s : State) : (s.onRot f).rot = f s.rot := rfl
@[simp] theorem State.onRot_sup (f : Rot → Rot) (s : State) : (s.onRot f).sup = s.sup := rfl
@[simp] theorem State.onRot_svu (f : Rot → Rot) (s : State) : (s.onRot f).svu = s.svu := rfl
@[simp] theorem State.onRot_mdc (f : Rot → Rot) (s : State) : (s.onRot f).mdc = s.mdc := rfl
@[simp] theorem State.onRot_localTime (f : Rot → Rot) (s : State) : (s.onRot f).localTime = s.localTime := rfl
@[simp] theorem State.onRot_resetting (f : Rot → Rot) (s : State) : (s.onRot f).resetting = s.resetting := rfl
@[simp] theorem State.onRot_lineAsserted (f : Rot → Rot) (s : State) : (s.onRot f).lineAsserted = s.lineAsserted := rfl
@[simp] theorem State.onRot_pending (f : Rot → Rot) (s : State) : (s.onRot f).pending = s.pending := rfl
@[simp] theorem State.onRot_choices (f : Rot → Rot) (s : State) : (s.onRot f).choices = s.choices := rfl

@[simp] theorem State.onSup_scu (f : Sup → Sup) (s : State) : (s.onSup f).scu = s.scu := rfl
@[simp] theorem State.onSup_pdu (f : Sup → Sup) (s : State) : (s.onSup f).pdu = s.pdu := rfl
@[simp] theorem State.onSup_liu (f : Sup → Sup) (s : State) : (s.onSup f).liu = s.liu := rfl
@[simp] theorem State.onSup_tbs (f : Sup → Sup) (s : State) : (s.onSup f).tbs = s.tbs := rfl
@[simp] theorem State.onSup_acu (f : Sup → Sup) (s : State) : (s.onSup f).acu = s.acu := rfl
@[simp] theorem State.onSup_sch (f : Sup → Sup) (s : State) : (s.onSup f).sch = s.sch := rfl
@[simp] theorem State.onSup_stc (f : Sup → Sup) (s : State) : (s.onSup f).stc = s.stc := rfl
@[simp] theorem State.onSup_dmc (f : Sup → Sup) (s : State) : (s.onSup f).dmc = s.dmc := rfl
@[simp] theorem State.onSup_rot (f : Sup → Sup) (s : State) : (s.onSup f).rot = s.rot := rfl
@[simp] theorem State.onSup_sup (f : Sup → Sup) (s : State) : (s.onSup f).sup = f s.sup := rfl
@[simp] theorem State.onSup_svu (f : Sup → Sup) (s : State) : (s.onSup f).svu = s.svu := rfl
@[simp] theorem State.onSup_mdc (f : Sup → Sup) (s : State) : (s.onSup f).mdc = s.mdc := rfl
@[simp] theorem State.onSup_localTime (f : Sup → Sup) (s : State) : (s.onSup f).localTime = s.localTime := rfl
@[simp] theorem State.onSup_resetting (f : Sup → Sup) (s : State) : (s.onSup f).resetting = s.resetting := rfl
@[simp] theorem State.onSup_lineAsserted (f : Sup → Sup) (s : State) : (s.onSup f).lineAsserted = s.lineAsserted := rfl
@[simp] theorem State.onSup_pending (f : Sup → Sup) (s : State) : (s.onSup f).pending = s.pending := rfl
@[simp] theorem State.onSup_choices (f : Sup → Sup) (s : State) : (s.onSup f).choices = s.choices := rfl

@[simp] theorem State.onSvu_scu (f : Svu → Svu) (s : State) : (s.onSvu f).scu = s.scu := rfl
@[simp] theorem State.onSvu_pdu (f : Svu → Svu) (s : State) : (s.onSvu f).pdu = s.pdu := rfl
@[simp] theorem State.onSvu_liu (f : Svu → Svu) (s : State) : (s.onSvu f).liu = s.liu := rfl
@[simp] theorem State.onSvu_tbs (f : Svu → Svu) (s : State) : (s.onSvu f).tbs = s.tbs := rfl
@[simp] theorem State.onSvu_acu (f : Svu → Svu) (s : State) : (s.onSvu f).acu = s.acu := rfl
@[simp] theorem State.onSvu_sch (f : Svu → Svu) (s : State) : (s.onSvu f).sch = s.sch := rfl
@[simp] theorem State.onSvu_stc (f : Svu → Svu) (s : State) : (s.onSvu f).stc = s.stc := rfl
@[simp] theorem State.onSvu_dmc (f : Svu → Svu) (s : State) : (s.onSvu f).dmc = s.dmc := rfl
@[simp] theorem State.onSvu_rot (f : Svu → Svu) (s : State) : (s.onSvu f).rot = s.rot := rfl
@[simp] theorem State.onSvu_sup (f : Svu → Svu) (s : State) : (s.onSvu f).sup = s.sup := rfl
@[simp] theorem State.onSvu_svu (f : Svu → Svu) (s : State) : (s.onSvu f).svu = f s.svu := rfl
@[simp] theorem State.onSvu_mdc (f : Svu → Svu) (s : State) : (s.onSvu f).mdc = s.mdc := rfl
@[simp] theorem State.onSvu_localTime (f : Svu → Svu) (s : State) : (s.onSvu f).localTime = s.localTime := rfl
@[simp] theorem State.onSvu_resetting (f : Svu → Svu) (s : State) : (s.onSvu f).resetting = s.resetting := rfl
@[simp] theorem State.onSvu_lineAsserted (f : Svu → Svu) (s : State) : (s.onSvu f).lineAsserted = s.lineAsserted := rfl
@[simp] theorem State.onSvu_pending (f : Svu → Svu) (s : State) : (s.onSvu f).pending = s.pending := rfl
@[simp] theorem State.onSvu_choices (f : Svu → Svu) (s : State) : (s.onSvu f).choices = s.choices := rfl

@[simp] theorem State.onMdc_scu (f : Mdc → Mdc) (s : State) : (s.onMdc f).scu = s.scu := rfl
@[simp] theorem State.onMdc_pdu (f : Mdc → Mdc) (s : State) : (s.onMdc f).pdu = s.pdu := rfl
@[simp] theorem State.onMdc_liu (f : Mdc → Mdc) (s : State) : (s.onMdc f).liu = s.liu := rfl
@[simp] theorem State.onMdc_tbs (f : Mdc → Mdc) (s : State) : (s.onMdc f).tbs = s.tbs := rfl
@[simp] theorem State.onMdc_acu (f : Mdc → Mdc) (s : State) : (s.onMdc f).acu = s.acu := rfl
@[simp] theorem State.onMdc_sch (f : Mdc → Mdc) (s : State) : (s.onMdc f).sch = s.sch := rfl
@[simp] theorem State.onMdc_stc (f : Mdc → Mdc) (s : State) : (s.onMdc f).stc = s.stc := rfl
@[simp] theorem State.onMdc_dmc (f : Mdc → Mdc) (s : State) : (s.onMdc f).dmc = s.dmc := rfl
@[simp] theorem State.onMdc_rot (f : Mdc → Mdc) (s : State) : (s.onMdc f).rot = s.rot := rfl
@[simp] theorem State.onMdc_sup (f : Mdc → Mdc) (s : State) : (s.onMdc f).sup = s.sup := rfl
@[simp] theorem State.onMdc_svu (f : Mdc → Mdc) (s : State) : (s.onMdc f).svu = s.svu := rfl
@[simp] theorem State.onMdc_mdc (f : Mdc → Mdc) (s : State) : (s.onMdc f).mdc = f s.mdc := rfl
@[simp] theorem State.onMdc_localTime (f : Mdc → Mdc) (s : State) : (s.onMdc f).localTime = s.localTime := rfl
@[simp] theorem State.onMdc_resetting (f : Mdc → Mdc) (s : State) : (s.onMdc f).resetting = s.resetting := rfl
@[simp] theorem State.onMdc_lineAsserted (f : Mdc → Mdc) (s : State) : (s.onMdc f).lineAsserted = s.lineAsserted := rfl
@[simp] theorem State.onMdc_pending (f : Mdc → Mdc) (s : State) : (s.onMdc f).pending = s.pending := rfl
@[simp] theorem State.onMdc_choices (f : Mdc → Mdc) (s : State) : (s.onMdc f).choices = s.choices := rfl

/-! ### The link frame counters, one channel, one damper, all of them -/

@[simp] theorem State.onCounters_scu (f : LinkCounters → LinkCounters) (s : State) : (s.onCounters f).scu = s.scu := rfl
@[simp] theorem State.onCounters_pdu (f : LinkCounters → LinkCounters) (s : State) : (s.onCounters f).pdu = s.pdu := rfl
@[simp] theorem State.onCounters_liu (f : LinkCounters → LinkCounters) (s : State) : (s.onCounters f).liu = { s.liu with counters := f s.liu.counters } := rfl
@[simp] theorem State.onCounters_tbs (f : LinkCounters → LinkCounters) (s : State) : (s.onCounters f).tbs = s.tbs := rfl
@[simp] theorem State.onCounters_acu (f : LinkCounters → LinkCounters) (s : State) : (s.onCounters f).acu = s.acu := rfl
@[simp] theorem State.onCounters_sch (f : LinkCounters → LinkCounters) (s : State) : (s.onCounters f).sch = s.sch := rfl
@[simp] theorem State.onCounters_stc (f : LinkCounters → LinkCounters) (s : State) : (s.onCounters f).stc = s.stc := rfl
@[simp] theorem State.onCounters_dmc (f : LinkCounters → LinkCounters) (s : State) : (s.onCounters f).dmc = s.dmc := rfl
@[simp] theorem State.onCounters_rot (f : LinkCounters → LinkCounters) (s : State) : (s.onCounters f).rot = s.rot := rfl
@[simp] theorem State.onCounters_sup (f : LinkCounters → LinkCounters) (s : State) : (s.onCounters f).sup = s.sup := rfl
@[simp] theorem State.onCounters_svu (f : LinkCounters → LinkCounters) (s : State) : (s.onCounters f).svu = s.svu := rfl
@[simp] theorem State.onCounters_mdc (f : LinkCounters → LinkCounters) (s : State) : (s.onCounters f).mdc = s.mdc := rfl
@[simp] theorem State.onCounters_localTime (f : LinkCounters → LinkCounters) (s : State) : (s.onCounters f).localTime = s.localTime := rfl
@[simp] theorem State.onCounters_resetting (f : LinkCounters → LinkCounters) (s : State) : (s.onCounters f).resetting = s.resetting := rfl
@[simp] theorem State.onCounters_lineAsserted (f : LinkCounters → LinkCounters) (s : State) : (s.onCounters f).lineAsserted = s.lineAsserted := rfl
@[simp] theorem State.onCounters_pending (f : LinkCounters → LinkCounters) (s : State) : (s.onCounters f).pending = s.pending := rfl
@[simp] theorem State.onCounters_choices (f : LinkCounters → LinkCounters) (s : State) : (s.onCounters f).choices = s.choices := rfl

@[simp] theorem State.setChannel_scu (n : Fin 24) (c : Channel) (s : State) : (s.setChannel n c).scu = s.scu := rfl
@[simp] theorem State.setChannel_pdu (n : Fin 24) (c : Channel) (s : State) : (s.setChannel n c).pdu = s.pdu := rfl
@[simp] theorem State.setChannel_liu (n : Fin 24) (c : Channel) (s : State) : (s.setChannel n c).liu = s.liu := rfl
@[simp] theorem State.setChannel_tbs (n : Fin 24) (c : Channel) (s : State) : (s.setChannel n c).tbs = s.tbs := rfl
@[simp] theorem State.setChannel_acu (n : Fin 24) (c : Channel) (s : State) : (s.setChannel n c).acu = s.acu := rfl
@[simp] theorem State.setChannel_sch (n : Fin 24) (c : Channel) (s : State) : (s.setChannel n c).sch = s.sch := rfl
@[simp] theorem State.setChannel_stc (n : Fin 24) (c : Channel) (s : State) : (s.setChannel n c).stc = { s.stc with channels := s.stc.channels.set n c } := rfl
@[simp] theorem State.setChannel_dmc (n : Fin 24) (c : Channel) (s : State) : (s.setChannel n c).dmc = s.dmc := rfl
@[simp] theorem State.setChannel_rot (n : Fin 24) (c : Channel) (s : State) : (s.setChannel n c).rot = s.rot := rfl
@[simp] theorem State.setChannel_sup (n : Fin 24) (c : Channel) (s : State) : (s.setChannel n c).sup = s.sup := rfl
@[simp] theorem State.setChannel_svu (n : Fin 24) (c : Channel) (s : State) : (s.setChannel n c).svu = s.svu := rfl
@[simp] theorem State.setChannel_mdc (n : Fin 24) (c : Channel) (s : State) : (s.setChannel n c).mdc = s.mdc := rfl
@[simp] theorem State.setChannel_localTime (n : Fin 24) (c : Channel) (s : State) : (s.setChannel n c).localTime = s.localTime := rfl
@[simp] theorem State.setChannel_resetting (n : Fin 24) (c : Channel) (s : State) : (s.setChannel n c).resetting = s.resetting := rfl
@[simp] theorem State.setChannel_lineAsserted (n : Fin 24) (c : Channel) (s : State) : (s.setChannel n c).lineAsserted = s.lineAsserted := rfl
@[simp] theorem State.setChannel_pending (n : Fin 24) (c : Channel) (s : State) : (s.setChannel n c).pending = s.pending := rfl
@[simp] theorem State.setChannel_choices (n : Fin 24) (c : Channel) (s : State) : (s.setChannel n c).choices = s.choices := rfl

@[simp] theorem State.mapChannels_scu (f : Fin 24 → Channel → Channel) (s : State) : (s.mapChannels f).scu = s.scu := rfl
@[simp] theorem State.mapChannels_pdu (f : Fin 24 → Channel → Channel) (s : State) : (s.mapChannels f).pdu = s.pdu := rfl
@[simp] theorem State.mapChannels_liu (f : Fin 24 → Channel → Channel) (s : State) : (s.mapChannels f).liu = s.liu := rfl
@[simp] theorem State.mapChannels_tbs (f : Fin 24 → Channel → Channel) (s : State) : (s.mapChannels f).tbs = s.tbs := rfl
@[simp] theorem State.mapChannels_acu (f : Fin 24 → Channel → Channel) (s : State) : (s.mapChannels f).acu = s.acu := rfl
@[simp] theorem State.mapChannels_sch (f : Fin 24 → Channel → Channel) (s : State) : (s.mapChannels f).sch = s.sch := rfl
@[simp] theorem State.mapChannels_stc (f : Fin 24 → Channel → Channel) (s : State) : (s.mapChannels f).stc = { s.stc with channels := tabulate fun i => f i s.stc.channels[i] } := rfl
@[simp] theorem State.mapChannels_dmc (f : Fin 24 → Channel → Channel) (s : State) : (s.mapChannels f).dmc = s.dmc := rfl
@[simp] theorem State.mapChannels_rot (f : Fin 24 → Channel → Channel) (s : State) : (s.mapChannels f).rot = s.rot := rfl
@[simp] theorem State.mapChannels_sup (f : Fin 24 → Channel → Channel) (s : State) : (s.mapChannels f).sup = s.sup := rfl
@[simp] theorem State.mapChannels_svu (f : Fin 24 → Channel → Channel) (s : State) : (s.mapChannels f).svu = s.svu := rfl
@[simp] theorem State.mapChannels_mdc (f : Fin 24 → Channel → Channel) (s : State) : (s.mapChannels f).mdc = s.mdc := rfl
@[simp] theorem State.mapChannels_localTime (f : Fin 24 → Channel → Channel) (s : State) : (s.mapChannels f).localTime = s.localTime := rfl
@[simp] theorem State.mapChannels_resetting (f : Fin 24 → Channel → Channel) (s : State) : (s.mapChannels f).resetting = s.resetting := rfl
@[simp] theorem State.mapChannels_lineAsserted (f : Fin 24 → Channel → Channel) (s : State) : (s.mapChannels f).lineAsserted = s.lineAsserted := rfl
@[simp] theorem State.mapChannels_pending (f : Fin 24 → Channel → Channel) (s : State) : (s.mapChannels f).pending = s.pending := rfl
@[simp] theorem State.mapChannels_choices (f : Fin 24 → Channel → Channel) (s : State) : (s.mapChannels f).choices = s.choices := rfl

@[simp] theorem State.setDamper_scu (d : Fin 4) (v : Damper) (s : State) : (s.setDamper d v).scu = s.scu := rfl
@[simp] theorem State.setDamper_pdu (d : Fin 4) (v : Damper) (s : State) : (s.setDamper d v).pdu = s.pdu := rfl
@[simp] theorem State.setDamper_liu (d : Fin 4) (v : Damper) (s : State) : (s.setDamper d v).liu = s.liu := rfl
@[simp] theorem State.setDamper_tbs (d : Fin 4) (v : Damper) (s : State) : (s.setDamper d v).tbs = s.tbs := rfl
@[simp] theorem State.setDamper_acu (d : Fin 4) (v : Damper) (s : State) : (s.setDamper d v).acu = s.acu := rfl
@[simp] theorem State.setDamper_sch (d : Fin 4) (v : Damper) (s : State) : (s.setDamper d v).sch = s.sch := rfl
@[simp] theorem State.setDamper_stc (d : Fin 4) (v : Damper) (s : State) : (s.setDamper d v).stc = s.stc := rfl
@[simp] theorem State.setDamper_dmc (d : Fin 4) (v : Damper) (s : State) : (s.setDamper d v).dmc = { s.dmc with dampers := s.dmc.dampers.set d v } := rfl
@[simp] theorem State.setDamper_rot (d : Fin 4) (v : Damper) (s : State) : (s.setDamper d v).rot = s.rot := rfl
@[simp] theorem State.setDamper_sup (d : Fin 4) (v : Damper) (s : State) : (s.setDamper d v).sup = s.sup := rfl
@[simp] theorem State.setDamper_svu (d : Fin 4) (v : Damper) (s : State) : (s.setDamper d v).svu = s.svu := rfl
@[simp] theorem State.setDamper_mdc (d : Fin 4) (v : Damper) (s : State) : (s.setDamper d v).mdc = s.mdc := rfl
@[simp] theorem State.setDamper_localTime (d : Fin 4) (v : Damper) (s : State) : (s.setDamper d v).localTime = s.localTime := rfl
@[simp] theorem State.setDamper_resetting (d : Fin 4) (v : Damper) (s : State) : (s.setDamper d v).resetting = s.resetting := rfl
@[simp] theorem State.setDamper_lineAsserted (d : Fin 4) (v : Damper) (s : State) : (s.setDamper d v).lineAsserted = s.lineAsserted := rfl
@[simp] theorem State.setDamper_pending (d : Fin 4) (v : Damper) (s : State) : (s.setDamper d v).pending = s.pending := rfl
@[simp] theorem State.setDamper_choices (d : Fin 4) (v : Damper) (s : State) : (s.setDamper d v).choices = s.choices := rfl

@[simp] theorem State.mapDampers_scu (f : Damper → Damper) (s : State) : (s.mapDampers f).scu = s.scu := rfl
@[simp] theorem State.mapDampers_pdu (f : Damper → Damper) (s : State) : (s.mapDampers f).pdu = s.pdu := rfl
@[simp] theorem State.mapDampers_liu (f : Damper → Damper) (s : State) : (s.mapDampers f).liu = s.liu := rfl
@[simp] theorem State.mapDampers_tbs (f : Damper → Damper) (s : State) : (s.mapDampers f).tbs = s.tbs := rfl
@[simp] theorem State.mapDampers_acu (f : Damper → Damper) (s : State) : (s.mapDampers f).acu = s.acu := rfl
@[simp] theorem State.mapDampers_sch (f : Damper → Damper) (s : State) : (s.mapDampers f).sch = s.sch := rfl
@[simp] theorem State.mapDampers_stc (f : Damper → Damper) (s : State) : (s.mapDampers f).stc = s.stc := rfl
@[simp] theorem State.mapDampers_dmc (f : Damper → Damper) (s : State) : (s.mapDampers f).dmc = { s.dmc with dampers := tabulate fun i => f s.dmc.dampers[i] } := rfl
@[simp] theorem State.mapDampers_rot (f : Damper → Damper) (s : State) : (s.mapDampers f).rot = s.rot := rfl
@[simp] theorem State.mapDampers_sup (f : Damper → Damper) (s : State) : (s.mapDampers f).sup = s.sup := rfl
@[simp] theorem State.mapDampers_svu (f : Damper → Damper) (s : State) : (s.mapDampers f).svu = s.svu := rfl
@[simp] theorem State.mapDampers_mdc (f : Damper → Damper) (s : State) : (s.mapDampers f).mdc = s.mdc := rfl
@[simp] theorem State.mapDampers_localTime (f : Damper → Damper) (s : State) : (s.mapDampers f).localTime = s.localTime := rfl
@[simp] theorem State.mapDampers_resetting (f : Damper → Damper) (s : State) : (s.mapDampers f).resetting = s.resetting := rfl
@[simp] theorem State.mapDampers_lineAsserted (f : Damper → Damper) (s : State) : (s.mapDampers f).lineAsserted = s.lineAsserted := rfl
@[simp] theorem State.mapDampers_pending (f : Damper → Damper) (s : State) : (s.mapDampers f).pending = s.pending := rfl
@[simp] theorem State.mapDampers_choices (f : Damper → Damper) (s : State) : (s.mapDampers f).choices = s.choices := rfl

/-! ### Reading one channel or damper back -/

@[simp] theorem tabulate_get {n : Nat} {α : Type} (f : Fin n → α) (i : Fin n) : (tabulate f)[i] = f i := by
  simp [tabulate]

@[simp] theorem State.setChannel_channel_same (n : Fin 24) (c : Channel) (s : State) :
    (s.setChannel n c).channel n = c := by simp [State.channel]

theorem State.setChannel_channel_other {m n : Fin 24} (h : m ≠ n) (c : Channel) (s : State) :
    (s.setChannel n c).channel m = s.channel m := by
  have h' : (n : Nat) ≠ m := fun e => h (Fin.ext e.symm)
  simp [State.channel, h']

@[simp] theorem State.mapChannels_channel (f : Fin 24 → Channel → Channel) (s : State) (n : Fin 24) :
    (s.mapChannels f).channel n = f n (s.channel n) := by
  have h := tabulate_get (fun i => f i s.stc.channels[i]) n
  simpa [State.channel] using h

@[simp] theorem State.setDamper_damper_same (d : Fin 4) (v : Damper) (s : State) :
    (s.setDamper d v).damper d = v := by simp [State.damper]

theorem State.setDamper_damper_other {e d : Fin 4} (h : e ≠ d) (v : Damper) (s : State) :
    (s.setDamper d v).damper e = s.damper e := by
  have h' : (d : Nat) ≠ e := fun i => h (Fin.ext i.symm)
  simp [State.damper, h']

@[simp] theorem State.mapDampers_damper (f : Damper → Damper) (s : State) (d : Fin 4) :
    (s.mapDampers f).damper d = f (s.damper d) := by
  have h := tabulate_get (fun i => f s.dmc.dampers[i]) d
  simpa [State.damper] using h

/-! ### Reads that an update does not reach -/

@[simp] theorem State.onScu_channel (f : Scu → Scu) (s : State) (n : Fin 24) :
    (s.onScu f).channel n = s.channel n := rfl
@[simp] theorem State.onPdu_channel (f : Pdu → Pdu) (s : State) (n : Fin 24) :
    (s.onPdu f).channel n = s.channel n := rfl
@[simp] theorem State.onLiu_channel (f : Liu → Liu) (s : State) (n : Fin 24) :
    (s.onLiu f).channel n = s.channel n := rfl
@[simp] theorem State.onTbs_channel (f : Tbs → Tbs) (s : State) (n : Fin 24) :
    (s.onTbs f).channel n = s.channel n := rfl
@[simp] theorem State.onAcu_channel (f : Acu → Acu) (s : State) (n : Fin 24) :
    (s.onAcu f).channel n = s.channel n := rfl
@[simp] theorem State.onSch_channel (f : Sch → Sch) (s : State) (n : Fin 24) :
    (s.onSch f).channel n = s.channel n := rfl
@[simp] theorem State.onDmc_channel (f : Dmc → Dmc) (s : State) (n : Fin 24) :
    (s.onDmc f).channel n = s.channel n := rfl
@[simp] theorem State.onRot_channel (f : Rot → Rot) (s : State) (n : Fin 24) :
    (s.onRot f).channel n = s.channel n := rfl
@[simp] theorem State.onSup_channel (f : Sup → Sup) (s : State) (n : Fin 24) :
    (s.onSup f).channel n = s.channel n := rfl
@[simp] theorem State.onSvu_channel (f : Svu → Svu) (s : State) (n : Fin 24) :
    (s.onSvu f).channel n = s.channel n := rfl
@[simp] theorem State.onMdc_channel (f : Mdc → Mdc) (s : State) (n : Fin 24) :
    (s.onMdc f).channel n = s.channel n := rfl
@[simp] theorem State.onCounters_channel (f : LinkCounters → LinkCounters) (s : State) (n : Fin 24) :
    (s.onCounters f).channel n = s.channel n := rfl
@[simp] theorem State.setDamper_channel (d : Fin 4) (v : Damper) (s : State) (n : Fin 24) :
    (s.setDamper d v).channel n = s.channel n := rfl
@[simp] theorem State.mapDampers_channel (f : Damper → Damper) (s : State) (n : Fin 24) :
    (s.mapDampers f).channel n = s.channel n := rfl

@[simp] theorem State.onScu_damper (f : Scu → Scu) (s : State) (n : Fin 4) :
    (s.onScu f).damper n = s.damper n := rfl
@[simp] theorem State.onPdu_damper (f : Pdu → Pdu) (s : State) (n : Fin 4) :
    (s.onPdu f).damper n = s.damper n := rfl
@[simp] theorem State.onLiu_damper (f : Liu → Liu) (s : State) (n : Fin 4) :
    (s.onLiu f).damper n = s.damper n := rfl
@[simp] theorem State.onTbs_damper (f : Tbs → Tbs) (s : State) (n : Fin 4) :
    (s.onTbs f).damper n = s.damper n := rfl
@[simp] theorem State.onAcu_damper (f : Acu → Acu) (s : State) (n : Fin 4) :
    (s.onAcu f).damper n = s.damper n := rfl
@[simp] theorem State.onSch_damper (f : Sch → Sch) (s : State) (n : Fin 4) :
    (s.onSch f).damper n = s.damper n := rfl
@[simp] theorem State.onStc_damper (f : Stc → Stc) (s : State) (n : Fin 4) :
    (s.onStc f).damper n = s.damper n := rfl
@[simp] theorem State.onRot_damper (f : Rot → Rot) (s : State) (n : Fin 4) :
    (s.onRot f).damper n = s.damper n := rfl
@[simp] theorem State.onSup_damper (f : Sup → Sup) (s : State) (n : Fin 4) :
    (s.onSup f).damper n = s.damper n := rfl
@[simp] theorem State.onSvu_damper (f : Svu → Svu) (s : State) (n : Fin 4) :
    (s.onSvu f).damper n = s.damper n := rfl
@[simp] theorem State.onMdc_damper (f : Mdc → Mdc) (s : State) (n : Fin 4) :
    (s.onMdc f).damper n = s.damper n := rfl
@[simp] theorem State.onCounters_damper (f : LinkCounters → LinkCounters) (s : State) (n : Fin 4) :
    (s.onCounters f).damper n = s.damper n := rfl
@[simp] theorem State.setChannel_damper (m : Fin 24) (c : Channel) (s : State) (n : Fin 4) :
    (s.setChannel m c).damper n = s.damper n := rfl
@[simp] theorem State.mapChannels_damper (f : Fin 24 → Channel → Channel) (s : State) (n : Fin 4) :
    (s.mapChannels f).damper n = s.damper n := rfl

@[simp] theorem State.onScu_strikerRecord (f : Scu → Scu) (s : State) (n : Fin 24) :
    (s.onScu f).strikerRecord n = s.strikerRecord n := rfl
@[simp] theorem State.onPdu_strikerRecord (f : Pdu → Pdu) (s : State) (n : Fin 24) :
    (s.onPdu f).strikerRecord n = s.strikerRecord n := rfl
@[simp] theorem State.onLiu_strikerRecord (f : Liu → Liu) (s : State) (n : Fin 24) :
    (s.onLiu f).strikerRecord n = s.strikerRecord n := rfl
@[simp] theorem State.onAcu_strikerRecord (f : Acu → Acu) (s : State) (n : Fin 24) :
    (s.onAcu f).strikerRecord n = s.strikerRecord n := rfl
@[simp] theorem State.onSch_strikerRecord (f : Sch → Sch) (s : State) (n : Fin 24) :
    (s.onSch f).strikerRecord n = s.strikerRecord n := rfl
@[simp] theorem State.onStc_strikerRecord (f : Stc → Stc) (s : State) (n : Fin 24) :
    (s.onStc f).strikerRecord n = s.strikerRecord n := rfl
@[simp] theorem State.onDmc_strikerRecord (f : Dmc → Dmc) (s : State) (n : Fin 24) :
    (s.onDmc f).strikerRecord n = s.strikerRecord n := rfl
@[simp] theorem State.onRot_strikerRecord (f : Rot → Rot) (s : State) (n : Fin 24) :
    (s.onRot f).strikerRecord n = s.strikerRecord n := rfl
@[simp] theorem State.onSup_strikerRecord (f : Sup → Sup) (s : State) (n : Fin 24) :
    (s.onSup f).strikerRecord n = s.strikerRecord n := rfl
@[simp] theorem State.onSvu_strikerRecord (f : Svu → Svu) (s : State) (n : Fin 24) :
    (s.onSvu f).strikerRecord n = s.strikerRecord n := rfl
@[simp] theorem State.onMdc_strikerRecord (f : Mdc → Mdc) (s : State) (n : Fin 24) :
    (s.onMdc f).strikerRecord n = s.strikerRecord n := rfl
@[simp] theorem State.onCounters_strikerRecord (f : LinkCounters → LinkCounters) (s : State) (n : Fin 24) :
    (s.onCounters f).strikerRecord n = s.strikerRecord n := rfl
@[simp] theorem State.setChannel_strikerRecord (m : Fin 24) (c : Channel) (s : State) (n : Fin 24) :
    (s.setChannel m c).strikerRecord n = s.strikerRecord n := rfl
@[simp] theorem State.mapChannels_strikerRecord (f : Fin 24 → Channel → Channel) (s : State) (n : Fin 24) :
    (s.mapChannels f).strikerRecord n = s.strikerRecord n := rfl
@[simp] theorem State.setDamper_strikerRecord (d : Fin 4) (v : Damper) (s : State) (n : Fin 24) :
    (s.setDamper d v).strikerRecord n = s.strikerRecord n := rfl
@[simp] theorem State.mapDampers_strikerRecord (f : Damper → Damper) (s : State) (n : Fin 24) :
    (s.mapDampers f).strikerRecord n = s.strikerRecord n := rfl

@[simp] theorem State.onScu_damperRecord (f : Scu → Scu) (s : State) (n : Fin 4) :
    (s.onScu f).damperRecord n = s.damperRecord n := rfl
@[simp] theorem State.onPdu_damperRecord (f : Pdu → Pdu) (s : State) (n : Fin 4) :
    (s.onPdu f).damperRecord n = s.damperRecord n := rfl
@[simp] theorem State.onLiu_damperRecord (f : Liu → Liu) (s : State) (n : Fin 4) :
    (s.onLiu f).damperRecord n = s.damperRecord n := rfl
@[simp] theorem State.onAcu_damperRecord (f : Acu → Acu) (s : State) (n : Fin 4) :
    (s.onAcu f).damperRecord n = s.damperRecord n := rfl
@[simp] theorem State.onSch_damperRecord (f : Sch → Sch) (s : State) (n : Fin 4) :
    (s.onSch f).damperRecord n = s.damperRecord n := rfl
@[simp] theorem State.onStc_damperRecord (f : Stc → Stc) (s : State) (n : Fin 4) :
    (s.onStc f).damperRecord n = s.damperRecord n := rfl
@[simp] theorem State.onDmc_damperRecord (f : Dmc → Dmc) (s : State) (n : Fin 4) :
    (s.onDmc f).damperRecord n = s.damperRecord n := rfl
@[simp] theorem State.onRot_damperRecord (f : Rot → Rot) (s : State) (n : Fin 4) :
    (s.onRot f).damperRecord n = s.damperRecord n := rfl
@[simp] theorem State.onSup_damperRecord (f : Sup → Sup) (s : State) (n : Fin 4) :
    (s.onSup f).damperRecord n = s.damperRecord n := rfl
@[simp] theorem State.onSvu_damperRecord (f : Svu → Svu) (s : State) (n : Fin 4) :
    (s.onSvu f).damperRecord n = s.damperRecord n := rfl
@[simp] theorem State.onMdc_damperRecord (f : Mdc → Mdc) (s : State) (n : Fin 4) :
    (s.onMdc f).damperRecord n = s.damperRecord n := rfl
@[simp] theorem State.onCounters_damperRecord (f : LinkCounters → LinkCounters) (s : State) (n : Fin 4) :
    (s.onCounters f).damperRecord n = s.damperRecord n := rfl
@[simp] theorem State.setChannel_damperRecord (m : Fin 24) (c : Channel) (s : State) (n : Fin 4) :
    (s.setChannel m c).damperRecord n = s.damperRecord n := rfl
@[simp] theorem State.mapChannels_damperRecord (f : Fin 24 → Channel → Channel) (s : State) (n : Fin 4) :
    (s.mapChannels f).damperRecord n = s.damperRecord n := rfl
@[simp] theorem State.setDamper_damperRecord (d : Fin 4) (v : Damper) (s : State) (n : Fin 4) :
    (s.setDamper d v).damperRecord n = s.damperRecord n := rfl
@[simp] theorem State.mapDampers_damperRecord (f : Damper → Damper) (s : State) (n : Fin 4) :
    (s.mapDampers f).damperRecord n = s.damperRecord n := rfl

/-! ### Reads of an updated block -/

@[simp] theorem State.onStc_channel (f : Stc → Stc) (s : State) (n : Fin 24) :
    (s.onStc f).channel n = (f s.stc).channels[n] := rfl
@[simp] theorem State.onDmc_damper (f : Dmc → Dmc) (s : State) (d : Fin 4) :
    (s.onDmc f).damper d = (f s.dmc).dampers[d] := rfl
@[simp] theorem State.onTbs_strikerRecord (f : Tbs → Tbs) (s : State) (n : Fin 24) :
    (s.onTbs f).strikerRecord n = (f s.tbs).strikers[n] := rfl
@[simp] theorem State.onTbs_damperRecord (f : Tbs → Tbs) (s : State) (d : Fin 4) :
    (s.onTbs f).damperRecord d = (f s.tbs).dampers[d] := rfl

end Sys2Proof.Machine
end

