-- ==== Sys2Proof/Laws/Frames.lean ====
section
/-! SUPPORT. What each shared operation leaves as it was, one lemma per operation: the parts of the state that
are not named are unchanged. -/
namespace Sys2Proof.Machine

/-! ### Channels, schedule, dampers, rotor -/

/-- truncateAll changes no other part than: stc. -/
@[simp] theorem State.truncateAll_frame (s : State) :
    (s.truncateAll).scu = s.scu ∧ (s.truncateAll).pdu = s.pdu ∧ (s.truncateAll).liu = s.liu ∧
    (s.truncateAll).tbs = s.tbs ∧ (s.truncateAll).acu = s.acu ∧ (s.truncateAll).sch = s.sch ∧
    (s.truncateAll).dmc = s.dmc ∧ (s.truncateAll).rot = s.rot ∧ (s.truncateAll).sup = s.sup ∧
    (s.truncateAll).svu = s.svu ∧ (s.truncateAll).mdc = s.mdc ∧ (s.truncateAll).localTime = s.localTime ∧
    (s.truncateAll).resetting = s.resetting ∧ (s.truncateAll).lineAsserted = s.lineAsserted ∧
    (s.truncateAll).pending = s.pending ∧ (s.truncateAll).choices = s.choices := by
  simp [State.truncateAll]

/-- takeDriveEnd changes no other part than: stc. -/
@[simp] theorem State.takeDriveEnd_frame (n : Fin 24) (s : State) :
    (s.takeDriveEnd n).scu = s.scu ∧ (s.takeDriveEnd n).pdu = s.pdu ∧ (s.takeDriveEnd n).liu = s.liu ∧
    (s.takeDriveEnd n).tbs = s.tbs ∧ (s.takeDriveEnd n).acu = s.acu ∧ (s.takeDriveEnd n).sch = s.sch ∧
    (s.takeDriveEnd n).dmc = s.dmc ∧ (s.takeDriveEnd n).rot = s.rot ∧ (s.takeDriveEnd n).sup = s.sup ∧
    (s.takeDriveEnd n).svu = s.svu ∧ (s.takeDriveEnd n).mdc = s.mdc ∧
    (s.takeDriveEnd n).localTime = s.localTime ∧ (s.takeDriveEnd n).resetting = s.resetting ∧
    (s.takeDriveEnd n).lineAsserted = s.lineAsserted ∧ (s.takeDriveEnd n).pending = s.pending ∧
    (s.takeDriveEnd n).choices = s.choices := by
  unfold State.takeDriveEnd; split <;> simp

/-- takeRecoveryEnd changes no other part than: stc. -/
@[simp] theorem State.takeRecoveryEnd_frame (n : Fin 24) (s : State) :
    (s.takeRecoveryEnd n).scu = s.scu ∧ (s.takeRecoveryEnd n).pdu = s.pdu ∧
    (s.takeRecoveryEnd n).liu = s.liu ∧ (s.takeRecoveryEnd n).tbs = s.tbs ∧
    (s.takeRecoveryEnd n).acu = s.acu ∧ (s.takeRecoveryEnd n).sch = s.sch ∧
    (s.takeRecoveryEnd n).dmc = s.dmc ∧ (s.takeRecoveryEnd n).rot = s.rot ∧
    (s.takeRecoveryEnd n).sup = s.sup ∧ (s.takeRecoveryEnd n).svu = s.svu ∧
    (s.takeRecoveryEnd n).mdc = s.mdc ∧ (s.takeRecoveryEnd n).localTime = s.localTime ∧
    (s.takeRecoveryEnd n).resetting = s.resetting ∧ (s.takeRecoveryEnd n).lineAsserted = s.lineAsserted ∧
    (s.takeRecoveryEnd n).pending = s.pending ∧ (s.takeRecoveryEnd n).choices = s.choices := by
  unfold State.takeRecoveryEnd; split <;> simp

/-- takeBusyLapse changes no other part than: stc. -/
@[simp] theorem State.takeBusyLapse_frame (n : Fin 24) (s : State) :
    (s.takeBusyLapse n).scu = s.scu ∧ (s.takeBusyLapse n).pdu = s.pdu ∧ (s.takeBusyLapse n).liu = s.liu ∧
    (s.takeBusyLapse n).tbs = s.tbs ∧ (s.takeBusyLapse n).acu = s.acu ∧ (s.takeBusyLapse n).sch = s.sch ∧
    (s.takeBusyLapse n).dmc = s.dmc ∧ (s.takeBusyLapse n).rot = s.rot ∧ (s.takeBusyLapse n).sup = s.sup ∧
    (s.takeBusyLapse n).svu = s.svu ∧ (s.takeBusyLapse n).mdc = s.mdc ∧
    (s.takeBusyLapse n).localTime = s.localTime ∧ (s.takeBusyLapse n).resetting = s.resetting ∧
    (s.takeBusyLapse n).lineAsserted = s.lineAsserted ∧ (s.takeBusyLapse n).pending = s.pending ∧
    (s.takeBusyLapse n).choices = s.choices := by
  unfold State.takeBusyLapse; split <;> simp

/-- takeCoolingTick changes no other part than: stc. -/
@[simp] theorem State.takeCoolingTick_frame (s : State) :
    (s.takeCoolingTick).scu = s.scu ∧ (s.takeCoolingTick).pdu = s.pdu ∧ (s.takeCoolingTick).liu = s.liu ∧
    (s.takeCoolingTick).tbs = s.tbs ∧ (s.takeCoolingTick).acu = s.acu ∧ (s.takeCoolingTick).sch = s.sch ∧
    (s.takeCoolingTick).dmc = s.dmc ∧ (s.takeCoolingTick).rot = s.rot ∧ (s.takeCoolingTick).sup = s.sup ∧
    (s.takeCoolingTick).svu = s.svu ∧ (s.takeCoolingTick).mdc = s.mdc ∧
    (s.takeCoolingTick).localTime = s.localTime ∧ (s.takeCoolingTick).resetting = s.resetting ∧
    (s.takeCoolingTick).lineAsserted = s.lineAsserted ∧ (s.takeCoolingTick).pending = s.pending ∧
    (s.takeCoolingTick).choices = s.choices := by
  unfold State.takeCoolingTick; split <;> simp

/-- flushSchedule changes no other part than: sch. -/
@[simp] theorem State.flushSchedule_frame (s : State) :
    (s.flushSchedule).scu = s.scu ∧ (s.flushSchedule).pdu = s.pdu ∧ (s.flushSchedule).liu = s.liu ∧
    (s.flushSchedule).tbs = s.tbs ∧ (s.flushSchedule).acu = s.acu ∧ (s.flushSchedule).stc = s.stc ∧
    (s.flushSchedule).dmc = s.dmc ∧ (s.flushSchedule).rot = s.rot ∧ (s.flushSchedule).sup = s.sup ∧
    (s.flushSchedule).svu = s.svu ∧ (s.flushSchedule).mdc = s.mdc ∧
    (s.flushSchedule).localTime = s.localTime ∧ (s.flushSchedule).resetting = s.resetting ∧
    (s.flushSchedule).lineAsserted = s.lineAsserted ∧ (s.flushSchedule).pending = s.pending ∧
    (s.flushSchedule).choices = s.choices := by
  simp [State.flushSchedule]

/-- dropDueDampers changes no other part than: sch. -/
@[simp] theorem State.dropDueDampers_frame (s : State) :
    (s.dropDueDampers).scu = s.scu ∧ (s.dropDueDampers).pdu = s.pdu ∧ (s.dropDueDampers).liu = s.liu ∧
    (s.dropDueDampers).tbs = s.tbs ∧ (s.dropDueDampers).acu = s.acu ∧ (s.dropDueDampers).stc = s.stc ∧
    (s.dropDueDampers).dmc = s.dmc ∧ (s.dropDueDampers).rot = s.rot ∧ (s.dropDueDampers).sup = s.sup ∧
    (s.dropDueDampers).svu = s.svu ∧ (s.dropDueDampers).mdc = s.mdc ∧
    (s.dropDueDampers).localTime = s.localTime ∧ (s.dropDueDampers).resetting = s.resetting ∧
    (s.dropDueDampers).lineAsserted = s.lineAsserted ∧ (s.dropDueDampers).pending = s.pending ∧
    (s.dropDueDampers).choices = s.choices := by
  simp [State.dropDueDampers]

/-- countDrop changes no other part than: sch. -/
@[simp] theorem State.countDrop_frame (r : DropReason) (s : State) :
    (s.countDrop r).scu = s.scu ∧ (s.countDrop r).pdu = s.pdu ∧ (s.countDrop r).liu = s.liu ∧
    (s.countDrop r).tbs = s.tbs ∧ (s.countDrop r).acu = s.acu ∧ (s.countDrop r).stc = s.stc ∧
    (s.countDrop r).dmc = s.dmc ∧ (s.countDrop r).rot = s.rot ∧ (s.countDrop r).sup = s.sup ∧
    (s.countDrop r).svu = s.svu ∧ (s.countDrop r).mdc = s.mdc ∧ (s.countDrop r).localTime = s.localTime ∧
    (s.countDrop r).resetting = s.resetting ∧ (s.countDrop r).lineAsserted = s.lineAsserted ∧
    (s.countDrop r).pending = s.pending ∧ (s.countDrop r).choices = s.choices := by
  simp [State.countDrop]

/-- forceDampers changes no other part than: dmc. -/
@[simp] theorem State.forceDampers_frame (s : State) :
    (s.forceDampers).scu = s.scu ∧ (s.forceDampers).pdu = s.pdu ∧ (s.forceDampers).liu = s.liu ∧
    (s.forceDampers).tbs = s.tbs ∧ (s.forceDampers).acu = s.acu ∧ (s.forceDampers).sch = s.sch ∧
    (s.forceDampers).stc = s.stc ∧ (s.forceDampers).rot = s.rot ∧ (s.forceDampers).sup = s.sup ∧
    (s.forceDampers).svu = s.svu ∧ (s.forceDampers).mdc = s.mdc ∧ (s.forceDampers).localTime = s.localTime ∧
    (s.forceDampers).resetting = s.resetting ∧ (s.forceDampers).lineAsserted = s.lineAsserted ∧
    (s.forceDampers).pending = s.pending ∧ (s.forceDampers).choices = s.choices := by
  simp [State.forceDampers]

/-- takeTravelEnd changes no other part than: dmc, sch. -/
@[simp] theorem State.takeTravelEnd_frame (d : Fin 4) (s : State) :
    (s.takeTravelEnd d).scu = s.scu ∧ (s.takeTravelEnd d).pdu = s.pdu ∧ (s.takeTravelEnd d).liu = s.liu ∧
    (s.takeTravelEnd d).tbs = s.tbs ∧ (s.takeTravelEnd d).acu = s.acu ∧ (s.takeTravelEnd d).stc = s.stc ∧
    (s.takeTravelEnd d).rot = s.rot ∧ (s.takeTravelEnd d).sup = s.sup ∧ (s.takeTravelEnd d).svu = s.svu ∧
    (s.takeTravelEnd d).mdc = s.mdc ∧ (s.takeTravelEnd d).localTime = s.localTime ∧
    (s.takeTravelEnd d).resetting = s.resetting ∧ (s.takeTravelEnd d).lineAsserted = s.lineAsserted ∧
    (s.takeTravelEnd d).pending = s.pending ∧ (s.takeTravelEnd d).choices = s.choices := by
  unfold State.takeTravelEnd; repeat' split
  all_goals simp

/-- takeHoldExpiry changes no other part than: dmc. -/
@[simp] theorem State.takeHoldExpiry_frame (d : Fin 4) (s : State) :
    (s.takeHoldExpiry d).scu = s.scu ∧ (s.takeHoldExpiry d).pdu = s.pdu ∧ (s.takeHoldExpiry d).liu = s.liu ∧
    (s.takeHoldExpiry d).tbs = s.tbs ∧ (s.takeHoldExpiry d).acu = s.acu ∧ (s.takeHoldExpiry d).sch = s.sch ∧
    (s.takeHoldExpiry d).stc = s.stc ∧ (s.takeHoldExpiry d).rot = s.rot ∧ (s.takeHoldExpiry d).sup = s.sup ∧
    (s.takeHoldExpiry d).svu = s.svu ∧ (s.takeHoldExpiry d).mdc = s.mdc ∧
    (s.takeHoldExpiry d).localTime = s.localTime ∧ (s.takeHoldExpiry d).resetting = s.resetting ∧
    (s.takeHoldExpiry d).lineAsserted = s.lineAsserted ∧ (s.takeHoldExpiry d).pending = s.pending ∧
    (s.takeHoldExpiry d).choices = s.choices := by
  unfold State.takeHoldExpiry; repeat' split
  all_goals simp

/-- handDamper changes no other part than: dmc, sch. -/
@[simp] theorem State.handDamper_frame (d : Fin 4) (a : DamperAction) (choke : Bool) (s : State) :
    (s.handDamper d a choke).scu = s.scu ∧ (s.handDamper d a choke).pdu = s.pdu ∧
    (s.handDamper d a choke).liu = s.liu ∧ (s.handDamper d a choke).tbs = s.tbs ∧
    (s.handDamper d a choke).acu = s.acu ∧ (s.handDamper d a choke).stc = s.stc ∧
    (s.handDamper d a choke).rot = s.rot ∧ (s.handDamper d a choke).sup = s.sup ∧
    (s.handDamper d a choke).svu = s.svu ∧ (s.handDamper d a choke).mdc = s.mdc ∧
    (s.handDamper d a choke).localTime = s.localTime ∧ (s.handDamper d a choke).resetting = s.resetting ∧
    (s.handDamper d a choke).lineAsserted = s.lineAsserted ∧ (s.handDamper d a choke).pending = s.pending ∧
    (s.handDamper d a choke).choices = s.choices := by
  unfold State.handDamper; repeat' split
  all_goals simp

/-- setRate changes no other part than: rot. -/
@[simp] theorem State.setRate_frame (rate : Nat) (s : State) :
    (s.setRate rate).scu = s.scu ∧ (s.setRate rate).pdu = s.pdu ∧ (s.setRate rate).liu = s.liu ∧
    (s.setRate rate).tbs = s.tbs ∧ (s.setRate rate).acu = s.acu ∧ (s.setRate rate).sch = s.sch ∧
    (s.setRate rate).stc = s.stc ∧ (s.setRate rate).dmc = s.dmc ∧ (s.setRate rate).sup = s.sup ∧
    (s.setRate rate).svu = s.svu ∧ (s.setRate rate).mdc = s.mdc ∧ (s.setRate rate).localTime = s.localTime ∧
    (s.setRate rate).resetting = s.resetting ∧ (s.setRate rate).lineAsserted = s.lineAsserted ∧
    (s.setRate rate).pending = s.pending ∧ (s.setRate rate).choices = s.choices := by
  unfold State.setRate; split <;> simp

/-- setAlign changes no other part than: rot. -/
@[simp] theorem State.setAlign_frame (t : ShowTime) (s : State) :
    (s.setAlign t).scu = s.scu ∧ (s.setAlign t).pdu = s.pdu ∧ (s.setAlign t).liu = s.liu ∧
    (s.setAlign t).tbs = s.tbs ∧ (s.setAlign t).acu = s.acu ∧ (s.setAlign t).sch = s.sch ∧
    (s.setAlign t).stc = s.stc ∧ (s.setAlign t).dmc = s.dmc ∧ (s.setAlign t).sup = s.sup ∧
    (s.setAlign t).svu = s.svu ∧ (s.setAlign t).mdc = s.mdc ∧ (s.setAlign t).localTime = s.localTime ∧
    (s.setAlign t).resetting = s.resetting ∧ (s.setAlign t).lineAsserted = s.lineAsserted ∧
    (s.setAlign t).pending = s.pending ∧ (s.setAlign t).choices = s.choices := by
  unfold State.setAlign; split <;> simp

/-- takeRampTick changes no other part than: rot. -/
@[simp] theorem State.takeRampTick_frame (s : State) :
    (s.takeRampTick).scu = s.scu ∧ (s.takeRampTick).pdu = s.pdu ∧ (s.takeRampTick).liu = s.liu ∧
    (s.takeRampTick).tbs = s.tbs ∧ (s.takeRampTick).acu = s.acu ∧ (s.takeRampTick).sch = s.sch ∧
    (s.takeRampTick).stc = s.stc ∧ (s.takeRampTick).dmc = s.dmc ∧ (s.takeRampTick).sup = s.sup ∧
    (s.takeRampTick).svu = s.svu ∧ (s.takeRampTick).mdc = s.mdc ∧ (s.takeRampTick).localTime = s.localTime ∧
    (s.takeRampTick).resetting = s.resetting ∧ (s.takeRampTick).lineAsserted = s.lineAsserted ∧
    (s.takeRampTick).pending = s.pending ∧ (s.takeRampTick).choices = s.choices := by
  unfold State.takeRampTick; split <;> simp

/-- takeRisingEdge changes no other part than: rot. -/
@[simp] theorem State.takeRisingEdge_frame (s : State) :
    (s.takeRisingEdge).scu = s.scu ∧ (s.takeRisingEdge).pdu = s.pdu ∧ (s.takeRisingEdge).liu = s.liu ∧
    (s.takeRisingEdge).tbs = s.tbs ∧ (s.takeRisingEdge).acu = s.acu ∧ (s.takeRisingEdge).sch = s.sch ∧
    (s.takeRisingEdge).stc = s.stc ∧ (s.takeRisingEdge).dmc = s.dmc ∧ (s.takeRisingEdge).sup = s.sup ∧
    (s.takeRisingEdge).svu = s.svu ∧ (s.takeRisingEdge).mdc = s.mdc ∧
    (s.takeRisingEdge).localTime = s.localTime ∧ (s.takeRisingEdge).resetting = s.resetting ∧
    (s.takeRisingEdge).lineAsserted = s.lineAsserted ∧ (s.takeRisingEdge).pending = s.pending ∧
    (s.takeRisingEdge).choices = s.choices := by
  unfold State.takeRisingEdge; repeat' split
  all_goals simp

/-- takeFallingEdge changes no other part than: rot. -/
@[simp] theorem State.takeFallingEdge_frame (s : State) :
    (s.takeFallingEdge).scu = s.scu ∧ (s.takeFallingEdge).pdu = s.pdu ∧ (s.takeFallingEdge).liu = s.liu ∧
    (s.takeFallingEdge).tbs = s.tbs ∧ (s.takeFallingEdge).acu = s.acu ∧ (s.takeFallingEdge).sch = s.sch ∧
    (s.takeFallingEdge).stc = s.stc ∧ (s.takeFallingEdge).dmc = s.dmc ∧ (s.takeFallingEdge).sup = s.sup ∧
    (s.takeFallingEdge).svu = s.svu ∧ (s.takeFallingEdge).mdc = s.mdc ∧
    (s.takeFallingEdge).localTime = s.localTime ∧ (s.takeFallingEdge).resetting = s.resetting ∧
    (s.takeFallingEdge).lineAsserted = s.lineAsserted ∧ (s.takeFallingEdge).pending = s.pending ∧
    (s.takeFallingEdge).choices = s.choices := by
  unfold State.takeFallingEdge; repeat' split
  all_goals simp

/-- takeAlign changes no other part than: rot. -/
@[simp] theorem State.takeAlign_frame (s : State) :
    (s.takeAlign).scu = s.scu ∧ (s.takeAlign).pdu = s.pdu ∧ (s.takeAlign).liu = s.liu ∧
    (s.takeAlign).tbs = s.tbs ∧ (s.takeAlign).acu = s.acu ∧ (s.takeAlign).sch = s.sch ∧
    (s.takeAlign).stc = s.stc ∧ (s.takeAlign).dmc = s.dmc ∧ (s.takeAlign).sup = s.sup ∧
    (s.takeAlign).svu = s.svu ∧ (s.takeAlign).mdc = s.mdc ∧ (s.takeAlign).localTime = s.localTime ∧
    (s.takeAlign).resetting = s.resetting ∧ (s.takeAlign).lineAsserted = s.lineAsserted ∧
    (s.takeAlign).pending = s.pending ∧ (s.takeAlign).choices = s.choices := by
  unfold State.takeAlign; split <;> simp

/-- takeIndexPulse changes no other part than: rot. -/
@[simp] theorem State.takeIndexPulse_frame (s : State) :
    (s.takeIndexPulse).scu = s.scu ∧ (s.takeIndexPulse).pdu = s.pdu ∧ (s.takeIndexPulse).liu = s.liu ∧
    (s.takeIndexPulse).tbs = s.tbs ∧ (s.takeIndexPulse).acu = s.acu ∧ (s.takeIndexPulse).sch = s.sch ∧
    (s.takeIndexPulse).stc = s.stc ∧ (s.takeIndexPulse).dmc = s.dmc ∧ (s.takeIndexPulse).sup = s.sup ∧
    (s.takeIndexPulse).svu = s.svu ∧ (s.takeIndexPulse).mdc = s.mdc ∧
    (s.takeIndexPulse).localTime = s.localTime ∧ (s.takeIndexPulse).resetting = s.resetting ∧
    (s.takeIndexPulse).lineAsserted = s.lineAsserted ∧ (s.takeIndexPulse).pending = s.pending ∧
    (s.takeIndexPulse).choices = s.choices := by
  unfold State.takeIndexPulse; split <;> simp

/-! ### The beginning of a reset -/

/-- beginReset changes no other part than: stc, dmc, rot, svu, liu, resetting. -/
@[simp] theorem State.beginReset_frame (c : ResetCause) (e : Option Nat) (s : State) :
    (s.beginReset c e).scu = s.scu ∧ (s.beginReset c e).pdu = s.pdu ∧ (s.beginReset c e).tbs = s.tbs ∧
    (s.beginReset c e).acu = s.acu ∧ (s.beginReset c e).sch = s.sch ∧ (s.beginReset c e).sup = s.sup ∧
    (s.beginReset c e).mdc = s.mdc ∧ (s.beginReset c e).localTime = s.localTime ∧
    (s.beginReset c e).lineAsserted = s.lineAsserted ∧ (s.beginReset c e).pending = s.pending ∧
    (s.beginReset c e).choices = s.choices := by
  simp [State.beginReset]

/-- handRestart changes no other part than: stc, dmc, rot, svu, liu, resetting. -/
@[simp] theorem State.handRestart_frame (s : State) :
    (s.handRestart).scu = s.scu ∧ (s.handRestart).pdu = s.pdu ∧ (s.handRestart).tbs = s.tbs ∧
    (s.handRestart).acu = s.acu ∧ (s.handRestart).sch = s.sch ∧ (s.handRestart).sup = s.sup ∧
    (s.handRestart).mdc = s.mdc ∧ (s.handRestart).localTime = s.localTime ∧
    (s.handRestart).lineAsserted = s.lineAsserted ∧ (s.handRestart).pending = s.pending ∧
    (s.handRestart).choices = s.choices := by
  simp [State.handRestart]

/-! ### The link -/

/-- discardCopy changes no other part than: liu, pdu, stc, dmc, rot, svu, resetting. -/
@[simp] theorem State.discardCopy_frame (i : ForwardItem) (s : State) :
    (s.discardCopy i).scu = s.scu ∧ (s.discardCopy i).tbs = s.tbs ∧ (s.discardCopy i).acu = s.acu ∧
    (s.discardCopy i).sch = s.sch ∧ (s.discardCopy i).sup = s.sup ∧ (s.discardCopy i).mdc = s.mdc ∧
    (s.discardCopy i).localTime = s.localTime ∧ (s.discardCopy i).lineAsserted = s.lineAsserted ∧
    (s.discardCopy i).pending = s.pending ∧ (s.discardCopy i).choices = s.choices := by
  unfold State.discardCopy; repeat' split
  all_goals simp

/-- transmitCopy changes no other part than: liu. -/
@[simp] theorem State.transmitCopy_frame (i : ForwardItem) (s : State) :
    (s.transmitCopy i).scu = s.scu ∧ (s.transmitCopy i).pdu = s.pdu ∧ (s.transmitCopy i).tbs = s.tbs ∧
    (s.transmitCopy i).acu = s.acu ∧ (s.transmitCopy i).sch = s.sch ∧ (s.transmitCopy i).stc = s.stc ∧
    (s.transmitCopy i).dmc = s.dmc ∧ (s.transmitCopy i).rot = s.rot ∧ (s.transmitCopy i).sup = s.sup ∧
    (s.transmitCopy i).svu = s.svu ∧ (s.transmitCopy i).mdc = s.mdc ∧
    (s.transmitCopy i).localTime = s.localTime ∧ (s.transmitCopy i).resetting = s.resetting ∧
    (s.transmitCopy i).lineAsserted = s.lineAsserted ∧ (s.transmitCopy i).pending = s.pending ∧
    (s.transmitCopy i).choices = s.choices := by
  simp [State.transmitCopy]

/-- startForward changes no other part than what the discard of a copy may change. -/
@[simp] theorem State.startForward_frame (n : Nat) (s : State) :
    (s.startForward n).scu = s.scu ∧ (s.startForward n).tbs = s.tbs ∧ (s.startForward n).acu = s.acu ∧
    (s.startForward n).sch = s.sch ∧ (s.startForward n).sup = s.sup ∧ (s.startForward n).mdc = s.mdc ∧
    (s.startForward n).localTime = s.localTime ∧ (s.startForward n).lineAsserted = s.lineAsserted ∧
    (s.startForward n).pending = s.pending ∧ (s.startForward n).choices = s.choices := by
  induction n generalizing s with
  | zero => simp [State.startForward]
  | succ n ih =>
    unfold State.startForward
    repeat' split
    all_goals simp [ih]


/-- kickForward changes no other part than: liu, pdu, stc, dmc, rot, svu, resetting. -/
@[simp] theorem State.kickForward_frame (s : State) :
    (s.kickForward).scu = s.scu ∧ (s.kickForward).tbs = s.tbs ∧ (s.kickForward).acu = s.acu ∧
    (s.kickForward).sch = s.sch ∧ (s.kickForward).sup = s.sup ∧ (s.kickForward).mdc = s.mdc ∧
    (s.kickForward).localTime = s.localTime ∧ (s.kickForward).lineAsserted = s.lineAsserted ∧
    (s.kickForward).pending = s.pending ∧ (s.kickForward).choices = s.choices := by
  simp [State.kickForward]

/-- forwardMark changes no other part than: liu, pdu, stc, dmc, rot, svu, resetting. -/
@[simp] theorem State.forwardMark_frame (m : WaitingMark) (s : State) :
    (s.forwardMark m).scu = s.scu ∧ (s.forwardMark m).tbs = s.tbs ∧ (s.forwardMark m).acu = s.acu ∧
    (s.forwardMark m).sch = s.sch ∧ (s.forwardMark m).sup = s.sup ∧ (s.forwardMark m).mdc = s.mdc ∧
    (s.forwardMark m).localTime = s.localTime ∧ (s.forwardMark m).lineAsserted = s.lineAsserted ∧
    (s.forwardMark m).pending = s.pending ∧ (s.forwardMark m).choices = s.choices := by
  unfold State.forwardMark; repeat' split
  all_goals simp

/-- forwardCopy changes no other part than: liu, pdu, stc, dmc, rot, svu, resetting. -/
@[simp] theorem State.forwardCopy_frame (f : Frame) (r : Bool) (s : State) :
    (s.forwardCopy f r).scu = s.scu ∧ (s.forwardCopy f r).tbs = s.tbs ∧ (s.forwardCopy f r).acu = s.acu ∧
    (s.forwardCopy f r).sch = s.sch ∧ (s.forwardCopy f r).sup = s.sup ∧ (s.forwardCopy f r).mdc = s.mdc ∧
    (s.forwardCopy f r).localTime = s.localTime ∧ (s.forwardCopy f r).lineAsserted = s.lineAsserted ∧
    (s.forwardCopy f r).pending = s.pending ∧ (s.forwardCopy f r).choices = s.choices := by
  unfold State.forwardCopy; split <;> simp

/-- endSending changes no other part than: liu, pdu, stc, dmc, rot, svu, resetting. -/
@[simp] theorem State.endSending_frame (j : SendingJob) (s : State) :
    (s.endSending j).scu = s.scu ∧ (s.endSending j).tbs = s.tbs ∧ (s.endSending j).acu = s.acu ∧
    (s.endSending j).sch = s.sch ∧ (s.endSending j).sup = s.sup ∧ (s.endSending j).mdc = s.mdc ∧
    (s.endSending j).localTime = s.localTime ∧ (s.endSending j).lineAsserted = s.lineAsserted ∧
    (s.endSending j).pending = s.pending ∧ (s.endSending j).choices = s.choices := by
  unfold State.endSending; repeat' split
  all_goals simp

/-- takeDownBoundary changes no other part than: liu, pdu, stc, dmc, rot, svu, resetting. -/
@[simp] theorem State.takeDownBoundary_frame (s : State) :
    (s.takeDownBoundary).scu = s.scu ∧ (s.takeDownBoundary).tbs = s.tbs ∧ (s.takeDownBoundary).acu = s.acu ∧
    (s.takeDownBoundary).sch = s.sch ∧ (s.takeDownBoundary).sup = s.sup ∧ (s.takeDownBoundary).mdc = s.mdc ∧
    (s.takeDownBoundary).localTime = s.localTime ∧ (s.takeDownBoundary).lineAsserted = s.lineAsserted ∧
    (s.takeDownBoundary).pending = s.pending ∧ (s.takeDownBoundary).choices = s.choices := by
  unfold State.takeDownBoundary; split <;> simp

/-- startReturn changes no other part than: liu. -/
@[simp] theorem State.startReturn_frame (s : State) :
    (s.startReturn).scu = s.scu ∧ (s.startReturn).pdu = s.pdu ∧ (s.startReturn).tbs = s.tbs ∧
    (s.startReturn).acu = s.acu ∧ (s.startReturn).sch = s.sch ∧ (s.startReturn).stc = s.stc ∧
    (s.startReturn).dmc = s.dmc ∧ (s.startReturn).rot = s.rot ∧ (s.startReturn).sup = s.sup ∧
    (s.startReturn).svu = s.svu ∧ (s.startReturn).mdc = s.mdc ∧ (s.startReturn).localTime = s.localTime ∧
    (s.startReturn).resetting = s.resetting ∧ (s.startReturn).lineAsserted = s.lineAsserted ∧
    (s.startReturn).pending = s.pending ∧ (s.startReturn).choices = s.choices := by
  simp [State.startReturn]

/-- kickReturn changes no other part than: liu. -/
@[simp] theorem State.kickReturn_frame (s : State) :
    (s.kickReturn).scu = s.scu ∧ (s.kickReturn).pdu = s.pdu ∧ (s.kickReturn).tbs = s.tbs ∧
    (s.kickReturn).acu = s.acu ∧ (s.kickReturn).sch = s.sch ∧ (s.kickReturn).stc = s.stc ∧
    (s.kickReturn).dmc = s.dmc ∧ (s.kickReturn).rot = s.rot ∧ (s.kickReturn).sup = s.sup ∧
    (s.kickReturn).svu = s.svu ∧ (s.kickReturn).mdc = s.mdc ∧ (s.kickReturn).localTime = s.localTime ∧
    (s.kickReturn).resetting = s.resetting ∧ (s.kickReturn).lineAsserted = s.lineAsserted ∧
    (s.kickReturn).pending = s.pending ∧ (s.kickReturn).choices = s.choices := by
  unfold State.kickReturn; split <;> simp

/-- queueAnswer changes no other part than: liu. -/
@[simp] theorem State.queueAnswer_frame (f : Frame) (g : LinkCounters → LinkCounters) (s : State) :
    (s.queueAnswer f g).scu = s.scu ∧ (s.queueAnswer f g).pdu = s.pdu ∧ (s.queueAnswer f g).tbs = s.tbs ∧
    (s.queueAnswer f g).acu = s.acu ∧ (s.queueAnswer f g).sch = s.sch ∧ (s.queueAnswer f g).stc = s.stc ∧
    (s.queueAnswer f g).dmc = s.dmc ∧ (s.queueAnswer f g).rot = s.rot ∧ (s.queueAnswer f g).sup = s.sup ∧
    (s.queueAnswer f g).svu = s.svu ∧ (s.queueAnswer f g).mdc = s.mdc ∧
    (s.queueAnswer f g).localTime = s.localTime ∧ (s.queueAnswer f g).resetting = s.resetting ∧
    (s.queueAnswer f g).lineAsserted = s.lineAsserted ∧ (s.queueAnswer f g).pending = s.pending ∧
    (s.queueAnswer f g).choices = s.choices := by
  unfold State.queueAnswer; split <;> simp

/-- answer changes no other part than: liu. -/
@[simp] theorem State.answer_frame (b : Byte) (c : State → List Byte) (s : State) :
    (s.answer b c).scu = s.scu ∧ (s.answer b c).pdu = s.pdu ∧ (s.answer b c).tbs = s.tbs ∧
    (s.answer b c).acu = s.acu ∧ (s.answer b c).sch = s.sch ∧ (s.answer b c).stc = s.stc ∧
    (s.answer b c).dmc = s.dmc ∧ (s.answer b c).rot = s.rot ∧ (s.answer b c).sup = s.sup ∧
    (s.answer b c).svu = s.svu ∧ (s.answer b c).mdc = s.mdc ∧ (s.answer b c).localTime = s.localTime ∧
    (s.answer b c).resetting = s.resetting ∧ (s.answer b c).lineAsserted = s.lineAsserted ∧
    (s.answer b c).pending = s.pending ∧ (s.answer b c).choices = s.choices := by
  simp [State.answer]

/-- holdProbe changes no other part than: liu. -/
@[simp] theorem State.holdProbe_frame (o n : Byte) (s : State) :
    (s.holdProbe o n).scu = s.scu ∧ (s.holdProbe o n).pdu = s.pdu ∧ (s.holdProbe o n).tbs = s.tbs ∧
    (s.holdProbe o n).acu = s.acu ∧ (s.holdProbe o n).sch = s.sch ∧ (s.holdProbe o n).stc = s.stc ∧
    (s.holdProbe o n).dmc = s.dmc ∧ (s.holdProbe o n).rot = s.rot ∧ (s.holdProbe o n).sup = s.sup ∧
    (s.holdProbe o n).svu = s.svu ∧ (s.holdProbe o n).mdc = s.mdc ∧
    (s.holdProbe o n).localTime = s.localTime ∧ (s.holdProbe o n).resetting = s.resetting ∧
    (s.holdProbe o n).lineAsserted = s.lineAsserted ∧ (s.holdProbe o n).pending = s.pending ∧
    (s.holdProbe o n).choices = s.choices := by
  simp [State.holdProbe]

/-- takeUpBoundary changes no other part than: liu. -/
@[simp] theorem State.takeUpBoundary_frame (s : State) :
    (s.takeUpBoundary).scu = s.scu ∧ (s.takeUpBoundary).pdu = s.pdu ∧ (s.takeUpBoundary).tbs = s.tbs ∧
    (s.takeUpBoundary).acu = s.acu ∧ (s.takeUpBoundary).sch = s.sch ∧ (s.takeUpBoundary).stc = s.stc ∧
    (s.takeUpBoundary).dmc = s.dmc ∧ (s.takeUpBoundary).rot = s.rot ∧ (s.takeUpBoundary).sup = s.sup ∧
    (s.takeUpBoundary).svu = s.svu ∧ (s.takeUpBoundary).mdc = s.mdc ∧
    (s.takeUpBoundary).localTime = s.localTime ∧ (s.takeUpBoundary).resetting = s.resetting ∧
    (s.takeUpBoundary).lineAsserted = s.lineAsserted ∧ (s.takeUpBoundary).pending = s.pending ∧
    (s.takeUpBoundary).choices = s.choices := by
  simp [State.takeUpBoundary]

/-! ### The lamp, the mode, reports -/

/-- refreshLamp changes no other part than: svu. -/
@[simp] theorem State.refreshLamp_frame (s : State) :
    (s.refreshLamp).scu = s.scu ∧ (s.refreshLamp).pdu = s.pdu ∧ (s.refreshLamp).liu = s.liu ∧
    (s.refreshLamp).tbs = s.tbs ∧ (s.refreshLamp).acu = s.acu ∧ (s.refreshLamp).sch = s.sch ∧
    (s.refreshLamp).stc = s.stc ∧ (s.refreshLamp).dmc = s.dmc ∧ (s.refreshLamp).rot = s.rot ∧
    (s.refreshLamp).sup = s.sup ∧ (s.refreshLamp).mdc = s.mdc ∧ (s.refreshLamp).localTime = s.localTime ∧
    (s.refreshLamp).resetting = s.resetting ∧ (s.refreshLamp).lineAsserted = s.lineAsserted ∧
    (s.refreshLamp).pending = s.pending ∧ (s.refreshLamp).choices = s.choices := by
  unfold State.refreshLamp; split <;> simp

/-- takeBlink changes no other part than: svu. -/
@[simp] theorem State.takeBlink_frame (s : State) :
    (s.takeBlink).scu = s.scu ∧ (s.takeBlink).pdu = s.pdu ∧ (s.takeBlink).liu = s.liu ∧
    (s.takeBlink).tbs = s.tbs ∧ (s.takeBlink).acu = s.acu ∧ (s.takeBlink).sch = s.sch ∧
    (s.takeBlink).stc = s.stc ∧ (s.takeBlink).dmc = s.dmc ∧ (s.takeBlink).rot = s.rot ∧
    (s.takeBlink).sup = s.sup ∧ (s.takeBlink).mdc = s.mdc ∧ (s.takeBlink).localTime = s.localTime ∧
    (s.takeBlink).resetting = s.resetting ∧ (s.takeBlink).lineAsserted = s.lineAsserted ∧
    (s.takeBlink).pending = s.pending ∧ (s.takeBlink).choices = s.choices := by
  unfold State.takeBlink; split <;> simp

/-- setMode changes no other part than: mdc, tbs, svu. -/
@[simp] theorem State.setMode_frame (m : Mode) (s : State) :
    (s.setMode m).scu = s.scu ∧ (s.setMode m).pdu = s.pdu ∧ (s.setMode m).liu = s.liu ∧
    (s.setMode m).acu = s.acu ∧ (s.setMode m).sch = s.sch ∧ (s.setMode m).stc = s.stc ∧
    (s.setMode m).dmc = s.dmc ∧ (s.setMode m).rot = s.rot ∧ (s.setMode m).sup = s.sup ∧
    (s.setMode m).localTime = s.localTime ∧ (s.setMode m).resetting = s.resetting ∧
    (s.setMode m).lineAsserted = s.lineAsserted ∧ (s.setMode m).pending = s.pending ∧
    (s.setMode m).choices = s.choices := by
  simp [State.setMode]

/-- stopActuators changes no other part than: stc, dmc, rot. -/
@[simp] theorem State.stopActuators_frame (s : State) :
    (s.stopActuators).scu = s.scu ∧ (s.stopActuators).pdu = s.pdu ∧ (s.stopActuators).liu = s.liu ∧
    (s.stopActuators).tbs = s.tbs ∧ (s.stopActuators).acu = s.acu ∧ (s.stopActuators).sch = s.sch ∧
    (s.stopActuators).sup = s.sup ∧ (s.stopActuators).svu = s.svu ∧ (s.stopActuators).mdc = s.mdc ∧
    (s.stopActuators).localTime = s.localTime ∧ (s.stopActuators).resetting = s.resetting ∧
    (s.stopActuators).lineAsserted = s.lineAsserted ∧ (s.stopActuators).pending = s.pending ∧
    (s.stopActuators).choices = s.choices := by
  simp [State.stopActuators]

/-- enterSafe changes no other part than: stc, dmc, rot, sch, mdc, tbs, svu. -/
@[simp] theorem State.enterSafe_frame (s : State) :
    (s.enterSafe).scu = s.scu ∧ (s.enterSafe).pdu = s.pdu ∧ (s.enterSafe).liu = s.liu ∧
    (s.enterSafe).acu = s.acu ∧ (s.enterSafe).sup = s.sup ∧ (s.enterSafe).localTime = s.localTime ∧
    (s.enterSafe).resetting = s.resetting ∧ (s.enterSafe).lineAsserted = s.lineAsserted ∧
    (s.enterSafe).pending = s.pending ∧ (s.enterSafe).choices = s.choices := by
  simp [State.enterSafe]

/-- requestSafe changes no other part than: stc, dmc, rot, sch, mdc, tbs, svu. -/
@[simp] theorem State.requestSafe_frame (s : State) :
    (s.requestSafe).scu = s.scu ∧ (s.requestSafe).pdu = s.pdu ∧ (s.requestSafe).liu = s.liu ∧
    (s.requestSafe).acu = s.acu ∧ (s.requestSafe).sup = s.sup ∧ (s.requestSafe).localTime = s.localTime ∧
    (s.requestSafe).resetting = s.resetting ∧ (s.requestSafe).lineAsserted = s.lineAsserted ∧
    (s.requestSafe).pending = s.pending ∧ (s.requestSafe).choices = s.choices := by
  unfold State.requestSafe; split <;> simp

/-- holdPair changes no other part than: stc. -/
@[simp] theorem State.holdPair_frame (p : FaultPair) (s : State) :
    (s.holdPair p).scu = s.scu ∧ (s.holdPair p).pdu = s.pdu ∧ (s.holdPair p).liu = s.liu ∧
    (s.holdPair p).tbs = s.tbs ∧ (s.holdPair p).acu = s.acu ∧ (s.holdPair p).sch = s.sch ∧
    (s.holdPair p).dmc = s.dmc ∧ (s.holdPair p).rot = s.rot ∧ (s.holdPair p).sup = s.sup ∧
    (s.holdPair p).svu = s.svu ∧ (s.holdPair p).mdc = s.mdc ∧ (s.holdPair p).localTime = s.localTime ∧
    (s.holdPair p).resetting = s.resetting ∧ (s.holdPair p).lineAsserted = s.lineAsserted ∧
    (s.holdPair p).pending = s.pending ∧ (s.holdPair p).choices = s.choices := by
  unfold State.holdPair; split <;> simp

/-- suspendGroup changes no other part than: stc. -/
@[simp] theorem State.suspendGroup_frame (p : FaultPair) (s : State) :
    (s.suspendGroup p).scu = s.scu ∧ (s.suspendGroup p).pdu = s.pdu ∧ (s.suspendGroup p).liu = s.liu ∧
    (s.suspendGroup p).tbs = s.tbs ∧ (s.suspendGroup p).acu = s.acu ∧ (s.suspendGroup p).sch = s.sch ∧
    (s.suspendGroup p).dmc = s.dmc ∧ (s.suspendGroup p).rot = s.rot ∧ (s.suspendGroup p).sup = s.sup ∧
    (s.suspendGroup p).svu = s.svu ∧ (s.suspendGroup p).mdc = s.mdc ∧
    (s.suspendGroup p).localTime = s.localTime ∧ (s.suspendGroup p).resetting = s.resetting ∧
    (s.suspendGroup p).lineAsserted = s.lineAsserted ∧ (s.suspendGroup p).pending = s.pending ∧
    (s.suspendGroup p).choices = s.choices := by
  unfold State.suspendGroup; split <;> simp

/-- unsuspendGroup changes no other part than: stc. -/
@[simp] theorem State.unsuspendGroup_frame (g : Fin 3) (s : State) :
    (s.unsuspendGroup g).scu = s.scu ∧ (s.unsuspendGroup g).pdu = s.pdu ∧ (s.unsuspendGroup g).liu = s.liu ∧
    (s.unsuspendGroup g).tbs = s.tbs ∧ (s.unsuspendGroup g).acu = s.acu ∧ (s.unsuspendGroup g).sch = s.sch ∧
    (s.unsuspendGroup g).dmc = s.dmc ∧ (s.unsuspendGroup g).rot = s.rot ∧ (s.unsuspendGroup g).sup = s.sup ∧
    (s.unsuspendGroup g).svu = s.svu ∧ (s.unsuspendGroup g).mdc = s.mdc ∧
    (s.unsuspendGroup g).localTime = s.localTime ∧ (s.unsuspendGroup g).resetting = s.resetting ∧
    (s.unsuspendGroup g).lineAsserted = s.lineAsserted ∧ (s.unsuspendGroup g).pending = s.pending ∧
    (s.unsuspendGroup g).choices = s.choices := by
  simp [State.unsuspendGroup]

/-- releasePair changes no other part than: stc. -/
@[simp] theorem State.releasePair_frame (p : FaultPair) (s : State) :
    (s.releasePair p).scu = s.scu ∧ (s.releasePair p).pdu = s.pdu ∧ (s.releasePair p).liu = s.liu ∧
    (s.releasePair p).tbs = s.tbs ∧ (s.releasePair p).acu = s.acu ∧ (s.releasePair p).sch = s.sch ∧
    (s.releasePair p).dmc = s.dmc ∧ (s.releasePair p).rot = s.rot ∧ (s.releasePair p).sup = s.sup ∧
    (s.releasePair p).svu = s.svu ∧ (s.releasePair p).mdc = s.mdc ∧
    (s.releasePair p).localTime = s.localTime ∧ (s.releasePair p).resetting = s.resetting ∧
    (s.releasePair p).lineAsserted = s.lineAsserted ∧ (s.releasePair p).pending = s.pending ∧
    (s.releasePair p).choices = s.choices := by
  simp [State.releasePair]

/-- releaseRemoved changes no other part than: stc. -/
@[simp] theorem State.releaseRemoved_frame (p : FaultPair) (s : State) :
    (s.releaseRemoved p).scu = s.scu ∧ (s.releaseRemoved p).pdu = s.pdu ∧ (s.releaseRemoved p).liu = s.liu ∧
    (s.releaseRemoved p).tbs = s.tbs ∧ (s.releaseRemoved p).acu = s.acu ∧ (s.releaseRemoved p).sch = s.sch ∧
    (s.releaseRemoved p).dmc = s.dmc ∧ (s.releaseRemoved p).rot = s.rot ∧ (s.releaseRemoved p).sup = s.sup ∧
    (s.releaseRemoved p).svu = s.svu ∧ (s.releaseRemoved p).mdc = s.mdc ∧
    (s.releaseRemoved p).localTime = s.localTime ∧ (s.releaseRemoved p).resetting = s.resetting ∧
    (s.releaseRemoved p).lineAsserted = s.lineAsserted ∧ (s.releaseRemoved p).pending = s.pending ∧
    (s.releaseRemoved p).choices = s.choices := by
  unfold State.releaseRemoved; split <;> simp

/-- releaseAll changes no other part than: stc. -/
@[simp] theorem State.releaseAll_frame (s : State) :
    (s.releaseAll).scu = s.scu ∧ (s.releaseAll).pdu = s.pdu ∧ (s.releaseAll).liu = s.liu ∧
    (s.releaseAll).tbs = s.tbs ∧ (s.releaseAll).acu = s.acu ∧ (s.releaseAll).sch = s.sch ∧
    (s.releaseAll).dmc = s.dmc ∧ (s.releaseAll).rot = s.rot ∧ (s.releaseAll).sup = s.sup ∧
    (s.releaseAll).svu = s.svu ∧ (s.releaseAll).mdc = s.mdc ∧ (s.releaseAll).localTime = s.localTime ∧
    (s.releaseAll).resetting = s.resetting ∧ (s.releaseAll).lineAsserted = s.lineAsserted ∧
    (s.releaseAll).pending = s.pending ∧ (s.releaseAll).choices = s.choices := by
  simp [State.releaseAll]

/-- react changes no other part than: stc, dmc, rot, sch, mdc, tbs, svu. -/
@[simp] theorem State.react_frame (p : FaultPair) (s : State) :
    (s.react p).scu = s.scu ∧ (s.react p).pdu = s.pdu ∧ (s.react p).liu = s.liu ∧ (s.react p).acu = s.acu ∧
    (s.react p).sup = s.sup ∧ (s.react p).localTime = s.localTime ∧ (s.react p).resetting = s.resetting ∧
    (s.react p).lineAsserted = s.lineAsserted ∧ (s.react p).pending = s.pending ∧
    (s.react p).choices = s.choices := by
  unfold State.react; split <;> simp

/-- sendNotice changes no other part than: liu. -/
@[simp] theorem State.sendNotice_frame (r : FaultRecord) (s : State) :
    (s.sendNotice r).scu = s.scu ∧ (s.sendNotice r).pdu = s.pdu ∧ (s.sendNotice r).tbs = s.tbs ∧
    (s.sendNotice r).acu = s.acu ∧ (s.sendNotice r).sch = s.sch ∧ (s.sendNotice r).stc = s.stc ∧
    (s.sendNotice r).dmc = s.dmc ∧ (s.sendNotice r).rot = s.rot ∧ (s.sendNotice r).sup = s.sup ∧
    (s.sendNotice r).svu = s.svu ∧ (s.sendNotice r).mdc = s.mdc ∧ (s.sendNotice r).localTime = s.localTime ∧
    (s.sendNotice r).resetting = s.resetting ∧ (s.sendNotice r).lineAsserted = s.lineAsserted ∧
    (s.sendNotice r).pending = s.pending ∧ (s.sendNotice r).choices = s.choices := by
  unfold State.sendNotice; split <;> simp

/-- appendRecord changes no other part than: svu, liu. -/
@[simp] theorem State.appendRecord_frame (r : FaultRecord) (s : State) :
    (s.appendRecord r).scu = s.scu ∧ (s.appendRecord r).pdu = s.pdu ∧ (s.appendRecord r).tbs = s.tbs ∧
    (s.appendRecord r).acu = s.acu ∧ (s.appendRecord r).sch = s.sch ∧ (s.appendRecord r).stc = s.stc ∧
    (s.appendRecord r).dmc = s.dmc ∧ (s.appendRecord r).rot = s.rot ∧ (s.appendRecord r).sup = s.sup ∧
    (s.appendRecord r).mdc = s.mdc ∧ (s.appendRecord r).localTime = s.localTime ∧
    (s.appendRecord r).resetting = s.resetting ∧ (s.appendRecord r).lineAsserted = s.lineAsserted ∧
    (s.appendRecord r).pending = s.pending ∧ (s.appendRecord r).choices = s.choices := by
  simp [State.appendRecord]

/-- storeReport changes no other part than: svu, liu. -/
@[simp] theorem State.storeReport_frame (p : FaultPair) (s : State) :
    (s.storeReport p).scu = s.scu ∧ (s.storeReport p).pdu = s.pdu ∧ (s.storeReport p).tbs = s.tbs ∧
    (s.storeReport p).acu = s.acu ∧ (s.storeReport p).sch = s.sch ∧ (s.storeReport p).stc = s.stc ∧
    (s.storeReport p).dmc = s.dmc ∧ (s.storeReport p).rot = s.rot ∧ (s.storeReport p).sup = s.sup ∧
    (s.storeReport p).mdc = s.mdc ∧ (s.storeReport p).localTime = s.localTime ∧
    (s.storeReport p).resetting = s.resetting ∧ (s.storeReport p).lineAsserted = s.lineAsserted ∧
    (s.storeReport p).pending = s.pending ∧ (s.storeReport p).choices = s.choices := by
  unfold State.storeReport; repeat' split
  all_goals simp

/-- report changes no other part than: stc, dmc, rot, sch, mdc, tbs, svu, liu. -/
@[simp] theorem State.report_frame (p : FaultPair) (s : State) :
    (s.report p).scu = s.scu ∧ (s.report p).pdu = s.pdu ∧ (s.report p).acu = s.acu ∧
    (s.report p).sup = s.sup ∧ (s.report p).localTime = s.localTime ∧ (s.report p).resetting = s.resetting ∧
    (s.report p).lineAsserted = s.lineAsserted ∧ (s.report p).pending = s.pending ∧
    (s.report p).choices = s.choices := by
  simp [State.report]

/-- deactivate changes no other part than: svu. -/
@[simp] theorem State.deactivate_frame (p : FaultPair) (s : State) :
    (s.deactivate p).scu = s.scu ∧ (s.deactivate p).pdu = s.pdu ∧ (s.deactivate p).liu = s.liu ∧
    (s.deactivate p).tbs = s.tbs ∧ (s.deactivate p).acu = s.acu ∧ (s.deactivate p).sch = s.sch ∧
    (s.deactivate p).stc = s.stc ∧ (s.deactivate p).dmc = s.dmc ∧ (s.deactivate p).rot = s.rot ∧
    (s.deactivate p).sup = s.sup ∧ (s.deactivate p).mdc = s.mdc ∧ (s.deactivate p).localTime = s.localTime ∧
    (s.deactivate p).resetting = s.resetting ∧ (s.deactivate p).lineAsserted = s.lineAsserted ∧
    (s.deactivate p).pending = s.pending ∧ (s.deactivate p).choices = s.choices := by
  simp [State.deactivate]

/-- reportEnd changes no other part than: svu, stc. -/
@[simp] theorem State.reportEnd_frame (p : FaultPair) (s : State) :
    (s.reportEnd p).scu = s.scu ∧ (s.reportEnd p).pdu = s.pdu ∧ (s.reportEnd p).liu = s.liu ∧
    (s.reportEnd p).tbs = s.tbs ∧ (s.reportEnd p).acu = s.acu ∧ (s.reportEnd p).sch = s.sch ∧
    (s.reportEnd p).dmc = s.dmc ∧ (s.reportEnd p).rot = s.rot ∧ (s.reportEnd p).sup = s.sup ∧
    (s.reportEnd p).mdc = s.mdc ∧ (s.reportEnd p).localTime = s.localTime ∧
    (s.reportEnd p).resetting = s.resetting ∧ (s.reportEnd p).lineAsserted = s.lineAsserted ∧
    (s.reportEnd p).pending = s.pending ∧ (s.reportEnd p).choices = s.choices := by
  unfold State.reportEnd; split <;> simp

/-- setFaults changes no other part than: svu. -/
@[simp] theorem State.setFaults_frame (l : List FaultRecord) (s : State) :
    (s.setFaults l).scu = s.scu ∧ (s.setFaults l).pdu = s.pdu ∧ (s.setFaults l).liu = s.liu ∧
    (s.setFaults l).tbs = s.tbs ∧ (s.setFaults l).acu = s.acu ∧ (s.setFaults l).sch = s.sch ∧
    (s.setFaults l).stc = s.stc ∧ (s.setFaults l).dmc = s.dmc ∧ (s.setFaults l).rot = s.rot ∧
    (s.setFaults l).sup = s.sup ∧ (s.setFaults l).mdc = s.mdc ∧ (s.setFaults l).localTime = s.localTime ∧
    (s.setFaults l).resetting = s.resetting ∧ (s.setFaults l).lineAsserted = s.lineAsserted ∧
    (s.setFaults l).pending = s.pending ∧ (s.setFaults l).choices = s.choices := by
  simp [State.setFaults]

/-- readd changes no other part than what a report may change. -/
@[simp] theorem State.readd_frame (ps : List FaultPair) (s : State) :
    (s.readd ps).scu = s.scu ∧ (s.readd ps).pdu = s.pdu ∧ (s.readd ps).acu = s.acu ∧
    (s.readd ps).sup = s.sup ∧ (s.readd ps).localTime = s.localTime ∧
    (s.readd ps).resetting = s.resetting ∧ (s.readd ps).lineAsserted = s.lineAsserted ∧
    (s.readd ps).pending = s.pending ∧ (s.readd ps).choices = s.choices := by
  induction ps generalizing s with
  | nil => simp [State.readd]
  | cons p ps ih =>
    have h := ih (s.report p)
    simp only [State.readd, List.foldl_cons] at h ⊢
    simpa using h


/-- clearPair changes no other part than: stc, dmc, rot, sch, mdc, tbs, svu, liu. -/
@[simp] theorem State.clearPair_frame (p : FaultPair) (s : State) :
    (s.clearPair p).scu = s.scu ∧ (s.clearPair p).pdu = s.pdu ∧ (s.clearPair p).acu = s.acu ∧
    (s.clearPair p).sup = s.sup ∧ (s.clearPair p).localTime = s.localTime ∧
    (s.clearPair p).resetting = s.resetting ∧ (s.clearPair p).lineAsserted = s.lineAsserted ∧
    (s.clearPair p).pending = s.pending ∧ (s.clearPair p).choices = s.choices := by
  unfold State.clearPair; simp only []; repeat' split
  all_goals simp

/-- clearAll changes no other part than: stc, dmc, rot, sch, mdc, tbs, svu, liu. -/
@[simp] theorem State.clearAll_frame (s : State) :
    (s.clearAll).scu = s.scu ∧ (s.clearAll).pdu = s.pdu ∧ (s.clearAll).acu = s.acu ∧
    (s.clearAll).sup = s.sup ∧ (s.clearAll).localTime = s.localTime ∧ (s.clearAll).resetting = s.resetting ∧
    (s.clearAll).lineAsserted = s.lineAsserted ∧ (s.clearAll).pending = s.pending ∧
    (s.clearAll).choices = s.choices := by
  simp [State.clearAll]

/-- emptyFaults changes no other part than: stc, dmc, rot, sch, mdc, tbs, svu, liu. -/
@[simp] theorem State.emptyFaults_frame (s : State) :
    (s.emptyFaults).scu = s.scu ∧ (s.emptyFaults).pdu = s.pdu ∧ (s.emptyFaults).acu = s.acu ∧
    (s.emptyFaults).sup = s.sup ∧ (s.emptyFaults).localTime = s.localTime ∧
    (s.emptyFaults).resetting = s.resetting ∧ (s.emptyFaults).lineAsserted = s.lineAsserted ∧
    (s.emptyFaults).pending = s.pending ∧ (s.emptyFaults).choices = s.choices := by
  simp [State.emptyFaults]

/-- The release of all groups' marks changes channels only. -/
@[simp] theorem State.foldl_releaseRemoved_frame (gs : List (Fin 3)) (s : State) :
    let t := gs.foldl (fun s g => s.releaseRemoved (.driverFault g)) s
    t.scu = s.scu ∧ t.pdu = s.pdu ∧ t.liu = s.liu ∧ t.tbs = s.tbs ∧ t.acu = s.acu ∧ t.sch = s.sch ∧
    t.dmc = s.dmc ∧ t.rot = s.rot ∧ t.sup = s.sup ∧ t.svu = s.svu ∧ t.mdc = s.mdc ∧
    t.localTime = s.localTime ∧ t.resetting = s.resetting ∧ t.lineAsserted = s.lineAsserted ∧
    t.pending = s.pending ∧ t.choices = s.choices := by
  induction gs generalizing s with
  | nil => simp
  | cons g gs ih => simpa using ih (s.releaseRemoved (.driverFault g))


/-- clearAfterCut changes no other part than: stc, dmc, rot, sch, mdc, tbs, svu, liu. -/
@[simp] theorem State.clearAfterCut_frame (s : State) :
    (s.clearAfterCut).scu = s.scu ∧ (s.clearAfterCut).pdu = s.pdu ∧ (s.clearAfterCut).acu = s.acu ∧
    (s.clearAfterCut).sup = s.sup ∧ (s.clearAfterCut).localTime = s.localTime ∧
    (s.clearAfterCut).resetting = s.resetting ∧ (s.clearAfterCut).lineAsserted = s.lineAsserted ∧
    (s.clearAfterCut).pending = s.pending ∧ (s.clearAfterCut).choices = s.choices := by
  simp [State.clearAfterCut]

/-! ### Supply and driver faults -/

/-- evaluateSupply changes no other part than: sup. -/
@[simp] theorem State.evaluateSupply_frame (s : State) :
    (s.evaluateSupply).scu = s.scu ∧ (s.evaluateSupply).pdu = s.pdu ∧ (s.evaluateSupply).liu = s.liu ∧
    (s.evaluateSupply).tbs = s.tbs ∧ (s.evaluateSupply).acu = s.acu ∧ (s.evaluateSupply).sch = s.sch ∧
    (s.evaluateSupply).stc = s.stc ∧ (s.evaluateSupply).dmc = s.dmc ∧ (s.evaluateSupply).rot = s.rot ∧
    (s.evaluateSupply).svu = s.svu ∧ (s.evaluateSupply).mdc = s.mdc ∧
    (s.evaluateSupply).localTime = s.localTime ∧ (s.evaluateSupply).resetting = s.resetting ∧
    (s.evaluateSupply).lineAsserted = s.lineAsserted ∧ (s.evaluateSupply).pending = s.pending ∧
    (s.evaluateSupply).choices = s.choices := by
  simp [State.evaluateSupply]

/-- enterCut changes no other part than: stc, dmc, rot, sup. -/
@[simp] theorem State.enterCut_frame (s : State) :
    (s.enterCut).scu = s.scu ∧ (s.enterCut).pdu = s.pdu ∧ (s.enterCut).liu = s.liu ∧
    (s.enterCut).tbs = s.tbs ∧ (s.enterCut).acu = s.acu ∧ (s.enterCut).sch = s.sch ∧
    (s.enterCut).svu = s.svu ∧ (s.enterCut).mdc = s.mdc ∧ (s.enterCut).localTime = s.localTime ∧
    (s.enterCut).resetting = s.resetting ∧ (s.enterCut).lineAsserted = s.lineAsserted ∧
    (s.enterCut).pending = s.pending ∧ (s.enterCut).choices = s.choices := by
  simp [State.enterCut]

/-- bandEffects changes no other part than: stc, dmc, rot, sch, mdc, tbs, svu, liu, sup. -/
@[simp] theorem State.bandEffects_frame (a b : Band) (s : State) :
    (s.bandEffects a b).scu = s.scu ∧ (s.bandEffects a b).pdu = s.pdu ∧ (s.bandEffects a b).acu = s.acu ∧
    (s.bandEffects a b).localTime = s.localTime ∧ (s.bandEffects a b).resetting = s.resetting ∧
    (s.bandEffects a b).lineAsserted = s.lineAsserted ∧ (s.bandEffects a b).pending = s.pending ∧
    (s.bandEffects a b).choices = s.choices := by
  unfold State.bandEffects; split <;> simp

/-- takeBand changes no other part than: stc, dmc, rot, sch, mdc, tbs, svu, liu, sup. -/
@[simp] theorem State.takeBand_frame (b : Band) (s : State) :
    (s.takeBand b).scu = s.scu ∧ (s.takeBand b).pdu = s.pdu ∧ (s.takeBand b).acu = s.acu ∧
    (s.takeBand b).localTime = s.localTime ∧ (s.takeBand b).resetting = s.resetting ∧
    (s.takeBand b).lineAsserted = s.lineAsserted ∧ (s.takeBand b).pending = s.pending ∧
    (s.takeBand b).choices = s.choices := by
  simp [State.takeBand]

/-- takeSupplyFilter changes no other part than: stc, dmc, rot, sch, mdc, tbs, svu, liu, sup. -/
@[simp] theorem State.takeSupplyFilter_frame (s : State) :
    (s.takeSupplyFilter).scu = s.scu ∧ (s.takeSupplyFilter).pdu = s.pdu ∧ (s.takeSupplyFilter).acu = s.acu ∧
    (s.takeSupplyFilter).localTime = s.localTime ∧ (s.takeSupplyFilter).resetting = s.resetting ∧
    (s.takeSupplyFilter).lineAsserted = s.lineAsserted ∧ (s.takeSupplyFilter).pending = s.pending ∧
    (s.takeSupplyFilter).choices = s.choices := by
  unfold State.takeSupplyFilter; repeat' split
  all_goals simp

/-- setSupplyLevel changes no other part than: sup. -/
@[simp] theorem State.setSupplyLevel_frame (l : Byte) (s : State) :
    (s.setSupplyLevel l).scu = s.scu ∧ (s.setSupplyLevel l).pdu = s.pdu ∧ (s.setSupplyLevel l).liu = s.liu ∧
    (s.setSupplyLevel l).tbs = s.tbs ∧ (s.setSupplyLevel l).acu = s.acu ∧ (s.setSupplyLevel l).sch = s.sch ∧
    (s.setSupplyLevel l).stc = s.stc ∧ (s.setSupplyLevel l).dmc = s.dmc ∧ (s.setSupplyLevel l).rot = s.rot ∧
    (s.setSupplyLevel l).svu = s.svu ∧ (s.setSupplyLevel l).mdc = s.mdc ∧
    (s.setSupplyLevel l).localTime = s.localTime ∧ (s.setSupplyLevel l).resetting = s.resetting ∧
    (s.setSupplyLevel l).lineAsserted = s.lineAsserted ∧ (s.setSupplyLevel l).pending = s.pending ∧
    (s.setSupplyLevel l).choices = s.choices := by
  unfold State.setSupplyLevel; simp; split <;> simp

/-- setDriverInput changes no other part than: svu. -/
@[simp] theorem State.setDriverInput_frame (g : Fin 3) (a : Bool) (s : State) :
    (s.setDriverInput g a).scu = s.scu ∧ (s.setDriverInput g a).pdu = s.pdu ∧
    (s.setDriverInput g a).liu = s.liu ∧ (s.setDriverInput g a).tbs = s.tbs ∧
    (s.setDriverInput g a).acu = s.acu ∧ (s.setDriverInput g a).sch = s.sch ∧
    (s.setDriverInput g a).stc = s.stc ∧ (s.setDriverInput g a).dmc = s.dmc ∧
    (s.setDriverInput g a).rot = s.rot ∧ (s.setDriverInput g a).sup = s.sup ∧
    (s.setDriverInput g a).mdc = s.mdc ∧ (s.setDriverInput g a).localTime = s.localTime ∧
    (s.setDriverInput g a).resetting = s.resetting ∧ (s.setDriverInput g a).lineAsserted = s.lineAsserted ∧
    (s.setDriverInput g a).pending = s.pending ∧ (s.setDriverInput g a).choices = s.choices := by
  unfold State.setDriverInput; split <;> simp

/-- takeDriverFilter changes no other part than: stc, dmc, rot, sch, mdc, tbs, svu, liu. -/
@[simp] theorem State.takeDriverFilter_frame (g : Fin 3) (s : State) :
    (s.takeDriverFilter g).scu = s.scu ∧ (s.takeDriverFilter g).pdu = s.pdu ∧
    (s.takeDriverFilter g).acu = s.acu ∧ (s.takeDriverFilter g).sup = s.sup ∧
    (s.takeDriverFilter g).localTime = s.localTime ∧ (s.takeDriverFilter g).resetting = s.resetting ∧
    (s.takeDriverFilter g).lineAsserted = s.lineAsserted ∧ (s.takeDriverFilter g).pending = s.pending ∧
    (s.takeDriverFilter g).choices = s.choices := by
  unfold State.takeDriverFilter; simp only []; repeat' split
  all_goals simp

/-! ### Strikes and hand-over -/

/-- closeAsMiss changes no other part than: stc, dmc, rot, sch, mdc, tbs, svu, liu. -/
@[simp] theorem State.closeAsMiss_frame (n : Fin 24) (s : State) :
    (s.closeAsMiss n).scu = s.scu ∧ (s.closeAsMiss n).pdu = s.pdu ∧ (s.closeAsMiss n).acu = s.acu ∧
    (s.closeAsMiss n).sup = s.sup ∧ (s.closeAsMiss n).localTime = s.localTime ∧
    (s.closeAsMiss n).resetting = s.resetting ∧ (s.closeAsMiss n).lineAsserted = s.lineAsserted ∧
    (s.closeAsMiss n).pending = s.pending ∧ (s.closeAsMiss n).choices = s.choices := by
  unfold State.closeAsMiss; simp only []; split <;> simp

/-- takeWindowEnd changes no other part than: stc, dmc, rot, sch, mdc, tbs, svu, liu. -/
@[simp] theorem State.takeWindowEnd_frame (n : Fin 24) (s : State) :
    (s.takeWindowEnd n).scu = s.scu ∧ (s.takeWindowEnd n).pdu = s.pdu ∧ (s.takeWindowEnd n).acu = s.acu ∧
    (s.takeWindowEnd n).sup = s.sup ∧ (s.takeWindowEnd n).localTime = s.localTime ∧
    (s.takeWindowEnd n).resetting = s.resetting ∧ (s.takeWindowEnd n).lineAsserted = s.lineAsserted ∧
    (s.takeWindowEnd n).pending = s.pending ∧ (s.takeWindowEnd n).choices = s.choices := by
  unfold State.takeWindowEnd; split <;> simp

/-- goodImpact changes no other part than: stc. -/
@[simp] theorem State.goodImpact_frame (n : Fin 24) (e : Int) (s : State) :
    (s.goodImpact n e).scu = s.scu ∧ (s.goodImpact n e).pdu = s.pdu ∧ (s.goodImpact n e).liu = s.liu ∧
    (s.goodImpact n e).tbs = s.tbs ∧ (s.goodImpact n e).acu = s.acu ∧ (s.goodImpact n e).sch = s.sch ∧
    (s.goodImpact n e).dmc = s.dmc ∧ (s.goodImpact n e).rot = s.rot ∧ (s.goodImpact n e).sup = s.sup ∧
    (s.goodImpact n e).svu = s.svu ∧ (s.goodImpact n e).mdc = s.mdc ∧
    (s.goodImpact n e).localTime = s.localTime ∧ (s.goodImpact n e).resetting = s.resetting ∧
    (s.goodImpact n e).lineAsserted = s.lineAsserted ∧ (s.goodImpact n e).pending = s.pending ∧
    (s.goodImpact n e).choices = s.choices := by
  simp [State.goodImpact]

/-- outlierImpact changes no other part than: stc, dmc, rot, sch, mdc, tbs, svu, liu. -/
@[simp] theorem State.outlierImpact_frame (n : Fin 24) (s : State) :
    (s.outlierImpact n).scu = s.scu ∧ (s.outlierImpact n).pdu = s.pdu ∧ (s.outlierImpact n).acu = s.acu ∧
    (s.outlierImpact n).sup = s.sup ∧ (s.outlierImpact n).localTime = s.localTime ∧
    (s.outlierImpact n).resetting = s.resetting ∧ (s.outlierImpact n).lineAsserted = s.lineAsserted ∧
    (s.outlierImpact n).pending = s.pending ∧ (s.outlierImpact n).choices = s.choices := by
  unfold State.outlierImpact; simp only []; split <;> simp

/-- strayImpact changes no other part than: stc. -/
@[simp] theorem State.strayImpact_frame (s : State) :
    (s.strayImpact).scu = s.scu ∧ (s.strayImpact).pdu = s.pdu ∧ (s.strayImpact).liu = s.liu ∧
    (s.strayImpact).tbs = s.tbs ∧ (s.strayImpact).acu = s.acu ∧ (s.strayImpact).sch = s.sch ∧
    (s.strayImpact).dmc = s.dmc ∧ (s.strayImpact).rot = s.rot ∧ (s.strayImpact).sup = s.sup ∧
    (s.strayImpact).svu = s.svu ∧ (s.strayImpact).mdc = s.mdc ∧ (s.strayImpact).localTime = s.localTime ∧
    (s.strayImpact).resetting = s.resetting ∧ (s.strayImpact).lineAsserted = s.lineAsserted ∧
    (s.strayImpact).pending = s.pending ∧ (s.strayImpact).choices = s.choices := by
  simp [State.strayImpact]

/-- takeImpact changes no other part than: stc, dmc, rot, sch, mdc, tbs, svu, liu. -/
@[simp] theorem State.takeImpact_frame (n : Fin 24) (s : State) :
    (s.takeImpact n).scu = s.scu ∧ (s.takeImpact n).pdu = s.pdu ∧ (s.takeImpact n).acu = s.acu ∧
    (s.takeImpact n).sup = s.sup ∧ (s.takeImpact n).localTime = s.localTime ∧
    (s.takeImpact n).resetting = s.resetting ∧ (s.takeImpact n).lineAsserted = s.lineAsserted ∧
    (s.takeImpact n).pending = s.pending ∧ (s.takeImpact n).choices = s.choices := by
  unfold State.takeImpact; simp only []; repeat' split
  all_goals simp

/-- startDrive changes no other part than: stc, dmc, rot, sch, mdc, tbs, svu, liu. -/
@[simp] theorem State.startDrive_frame (n : Fin 24) (a e : ShowTime) (w : Nat) (s : State) :
    (s.startDrive n a e w).scu = s.scu ∧ (s.startDrive n a e w).pdu = s.pdu ∧
    (s.startDrive n a e w).acu = s.acu ∧ (s.startDrive n a e w).sup = s.sup ∧
    (s.startDrive n a e w).localTime = s.localTime ∧ (s.startDrive n a e w).resetting = s.resetting ∧
    (s.startDrive n a e w).lineAsserted = s.lineAsserted ∧ (s.startDrive n a e w).pending = s.pending ∧
    (s.startDrive n a e w).choices = s.choices := by
  unfold State.startDrive; simp only []; repeat' split
  all_goals simp

/-- handStrike changes no other part than: stc, dmc, rot, sch, mdc, tbs, svu, liu. -/
@[simp] theorem State.handStrike_frame (n : Fin 24) (a e : ShowTime) (w : Nat) (s : State) :
    (s.handStrike n a e w).scu = s.scu ∧ (s.handStrike n a e w).pdu = s.pdu ∧
    (s.handStrike n a e w).acu = s.acu ∧ (s.handStrike n a e w).sup = s.sup ∧
    (s.handStrike n a e w).localTime = s.localTime ∧ (s.handStrike n a e w).resetting = s.resetting ∧
    (s.handStrike n a e w).lineAsserted = s.lineAsserted ∧ (s.handStrike n a e w).pending = s.pending ∧
    (s.handStrike n a e w).choices = s.choices := by
  unfold State.handStrike; simp only []; split <;> simp

/-- handOver changes no other part than: stc, dmc, rot, sch, mdc, tbs, svu, liu. -/
@[simp] theorem State.handOver_frame (e : Entry) (s : State) :
    (s.handOver e).scu = s.scu ∧ (s.handOver e).pdu = s.pdu ∧ (s.handOver e).acu = s.acu ∧
    (s.handOver e).sup = s.sup ∧ (s.handOver e).localTime = s.localTime ∧
    (s.handOver e).resetting = s.resetting ∧ (s.handOver e).lineAsserted = s.lineAsserted ∧
    (s.handOver e).pending = s.pending ∧ (s.handOver e).choices = s.choices := by
  unfold State.handOver; simp only []; repeat' split
  all_goals simp

/-- dueLoop changes no other part than what a hand-over may change. -/
@[simp] theorem State.dueLoop_frame (k : Nat) (s : State) :
    (s.dueLoop k).scu = s.scu ∧ (s.dueLoop k).pdu = s.pdu ∧ (s.dueLoop k).acu = s.acu ∧
    (s.dueLoop k).sup = s.sup ∧ (s.dueLoop k).localTime = s.localTime ∧
    (s.dueLoop k).resetting = s.resetting ∧ (s.dueLoop k).lineAsserted = s.lineAsserted ∧
    (s.dueLoop k).pending = s.pending ∧ (s.dueLoop k).choices = s.choices := by
  induction k generalizing s with
  | zero => simp [State.dueLoop]
  | succ k ih =>
    unfold State.dueLoop
    repeat' split
    all_goals simp [ih]


/-- takeDue changes no other part than: stc, dmc, rot, sch, mdc, tbs, svu, liu. -/
@[simp] theorem State.takeDue_frame (s : State) :
    (s.takeDue).scu = s.scu ∧ (s.takeDue).pdu = s.pdu ∧ (s.takeDue).acu = s.acu ∧ (s.takeDue).sup = s.sup ∧
    (s.takeDue).localTime = s.localTime ∧ (s.takeDue).resetting = s.resetting ∧
    (s.takeDue).lineAsserted = s.lineAsserted ∧ (s.takeDue).pending = s.pending ∧
    (s.takeDue).choices = s.choices := by
  simp [State.takeDue]

/-! ### Reception and probes -/

/-- leakFell changes no other part than: liu, svu, stc. -/
@[simp] theorem State.leakFell_frame (p : Port) (s : State) :
    (s.leakFell p).scu = s.scu ∧ (s.leakFell p).pdu = s.pdu ∧ (s.leakFell p).tbs = s.tbs ∧
    (s.leakFell p).acu = s.acu ∧ (s.leakFell p).sch = s.sch ∧ (s.leakFell p).dmc = s.dmc ∧
    (s.leakFell p).rot = s.rot ∧ (s.leakFell p).sup = s.sup ∧ (s.leakFell p).mdc = s.mdc ∧
    (s.leakFell p).localTime = s.localTime ∧ (s.leakFell p).resetting = s.resetting ∧
    (s.leakFell p).lineAsserted = s.lineAsserted ∧ (s.leakFell p).pending = s.pending ∧
    (s.leakFell p).choices = s.choices := by
  unfold State.leakFell; repeat' split
  all_goals simp

/-- leakRose changes no other part than: stc, dmc, rot, sch, mdc, tbs, svu, liu. -/
@[simp] theorem State.leakRose_frame (p : Port) (s : State) :
    (s.leakRose p).scu = s.scu ∧ (s.leakRose p).pdu = s.pdu ∧ (s.leakRose p).acu = s.acu ∧
    (s.leakRose p).sup = s.sup ∧ (s.leakRose p).localTime = s.localTime ∧
    (s.leakRose p).resetting = s.resetting ∧ (s.leakRose p).lineAsserted = s.lineAsserted ∧
    (s.leakRose p).pending = s.pending ∧ (s.leakRose p).choices = s.choices := by
  unfold State.leakRose; repeat' split
  all_goals simp

/-- countGood changes no other part than: liu, svu, stc. -/
@[simp] theorem State.countGood_frame (p : Port) (s : State) :
    (s.countGood p).scu = s.scu ∧ (s.countGood p).pdu = s.pdu ∧ (s.countGood p).tbs = s.tbs ∧
    (s.countGood p).acu = s.acu ∧ (s.countGood p).sch = s.sch ∧ (s.countGood p).dmc = s.dmc ∧
    (s.countGood p).rot = s.rot ∧ (s.countGood p).sup = s.sup ∧ (s.countGood p).mdc = s.mdc ∧
    (s.countGood p).localTime = s.localTime ∧ (s.countGood p).resetting = s.resetting ∧
    (s.countGood p).lineAsserted = s.lineAsserted ∧ (s.countGood p).pending = s.pending ∧
    (s.countGood p).choices = s.choices := by
  simp [State.countGood]

/-- countBad changes no other part than: stc, dmc, rot, sch, mdc, tbs, svu, liu. -/
@[simp] theorem State.countBad_frame (p : Port) (s : State) :
    (s.countBad p).scu = s.scu ∧ (s.countBad p).pdu = s.pdu ∧ (s.countBad p).acu = s.acu ∧
    (s.countBad p).sup = s.sup ∧ (s.countBad p).localTime = s.localTime ∧
    (s.countBad p).resetting = s.resetting ∧ (s.countBad p).lineAsserted = s.lineAsserted ∧
    (s.countBad p).pending = s.pending ∧ (s.countBad p).choices = s.choices := by
  simp [State.countBad]

/-- relay changes no other part than: stc, dmc, rot, sch, mdc, tbs, svu, liu. -/
@[simp] theorem State.relay_frame (f : Frame) (s : State) :
    (s.relay f).scu = s.scu ∧ (s.relay f).pdu = s.pdu ∧ (s.relay f).acu = s.acu ∧ (s.relay f).sup = s.sup ∧
    (s.relay f).localTime = s.localTime ∧ (s.relay f).resetting = s.resetting ∧
    (s.relay f).lineAsserted = s.lineAsserted ∧ (s.relay f).pending = s.pending ∧
    (s.relay f).choices = s.choices := by
  unfold State.relay; split <;> simp

/-- probeReturned changes no other part than: pdu, svu, stc. -/
@[simp] theorem State.probeReturned_frame (n : Byte) (h : Half) (s : State) :
    (s.probeReturned n h).scu = s.scu ∧ (s.probeReturned n h).liu = s.liu ∧
    (s.probeReturned n h).tbs = s.tbs ∧ (s.probeReturned n h).acu = s.acu ∧
    (s.probeReturned n h).sch = s.sch ∧ (s.probeReturned n h).dmc = s.dmc ∧
    (s.probeReturned n h).rot = s.rot ∧ (s.probeReturned n h).sup = s.sup ∧
    (s.probeReturned n h).mdc = s.mdc ∧ (s.probeReturned n h).localTime = s.localTime ∧
    (s.probeReturned n h).resetting = s.resetting ∧ (s.probeReturned n h).lineAsserted = s.lineAsserted ∧
    (s.probeReturned n h).pending = s.pending ∧ (s.probeReturned n h).choices = s.choices := by
  unfold State.probeReturned; simp only []; repeat' split
  all_goals simp

/-- takeProbeSend changes no other part than: liu, pdu. -/
@[simp] theorem State.takeProbeSend_frame (s : State) :
    (s.takeProbeSend).scu = s.scu ∧ (s.takeProbeSend).tbs = s.tbs ∧ (s.takeProbeSend).acu = s.acu ∧
    (s.takeProbeSend).sch = s.sch ∧ (s.takeProbeSend).stc = s.stc ∧ (s.takeProbeSend).dmc = s.dmc ∧
    (s.takeProbeSend).rot = s.rot ∧ (s.takeProbeSend).sup = s.sup ∧ (s.takeProbeSend).svu = s.svu ∧
    (s.takeProbeSend).mdc = s.mdc ∧ (s.takeProbeSend).localTime = s.localTime ∧
    (s.takeProbeSend).resetting = s.resetting ∧ (s.takeProbeSend).lineAsserted = s.lineAsserted ∧
    (s.takeProbeSend).pending = s.pending ∧ (s.takeProbeSend).choices = s.choices := by
  unfold State.takeProbeSend; split <;> simp

/-- takeProbeWindow changes no other part than: pdu. -/
@[simp] theorem State.takeProbeWindow_frame (s : State) :
    (s.takeProbeWindow).scu = s.scu ∧ (s.takeProbeWindow).liu = s.liu ∧ (s.takeProbeWindow).tbs = s.tbs ∧
    (s.takeProbeWindow).acu = s.acu ∧ (s.takeProbeWindow).sch = s.sch ∧ (s.takeProbeWindow).stc = s.stc ∧
    (s.takeProbeWindow).dmc = s.dmc ∧ (s.takeProbeWindow).rot = s.rot ∧ (s.takeProbeWindow).sup = s.sup ∧
    (s.takeProbeWindow).svu = s.svu ∧ (s.takeProbeWindow).mdc = s.mdc ∧
    (s.takeProbeWindow).localTime = s.localTime ∧ (s.takeProbeWindow).resetting = s.resetting ∧
    (s.takeProbeWindow).lineAsserted = s.lineAsserted ∧ (s.takeProbeWindow).pending = s.pending ∧
    (s.takeProbeWindow).choices = s.choices := by
  unfold State.takeProbeWindow; split <;> simp

/-- missSample changes no other part than: stc, dmc, rot, sch, mdc, tbs, svu, liu, pdu. -/
@[simp] theorem State.missSample_frame (s : State) :
    (s.missSample).scu = s.scu ∧ (s.missSample).acu = s.acu ∧ (s.missSample).sup = s.sup ∧
    (s.missSample).localTime = s.localTime ∧ (s.missSample).resetting = s.resetting ∧
    (s.missSample).lineAsserted = s.lineAsserted ∧ (s.missSample).pending = s.pending ∧
    (s.missSample).choices = s.choices := by
  unfold State.missSample; simp only []; repeat' split
  all_goals simp

/-- takeProbeTimeout changes no other part than: stc, dmc, rot, sch, mdc, tbs, svu, liu, pdu. -/
@[simp] theorem State.takeProbeTimeout_frame (s : State) :
    (s.takeProbeTimeout).scu = s.scu ∧ (s.takeProbeTimeout).acu = s.acu ∧ (s.takeProbeTimeout).sup = s.sup ∧
    (s.takeProbeTimeout).localTime = s.localTime ∧ (s.takeProbeTimeout).resetting = s.resetting ∧
    (s.takeProbeTimeout).lineAsserted = s.lineAsserted ∧ (s.takeProbeTimeout).pending = s.pending ∧
    (s.takeProbeTimeout).choices = s.choices := by
  unfold State.takeProbeTimeout; split <;> simp

/-- becomeChainEnd changes no other part than: pdu, svu, stc. -/
@[simp] theorem State.becomeChainEnd_frame (s : State) :
    (s.becomeChainEnd).scu = s.scu ∧ (s.becomeChainEnd).liu = s.liu ∧ (s.becomeChainEnd).tbs = s.tbs ∧
    (s.becomeChainEnd).acu = s.acu ∧ (s.becomeChainEnd).sch = s.sch ∧ (s.becomeChainEnd).dmc = s.dmc ∧
    (s.becomeChainEnd).rot = s.rot ∧ (s.becomeChainEnd).sup = s.sup ∧ (s.becomeChainEnd).mdc = s.mdc ∧
    (s.becomeChainEnd).localTime = s.localTime ∧ (s.becomeChainEnd).resetting = s.resetting ∧
    (s.becomeChainEnd).lineAsserted = s.lineAsserted ∧ (s.becomeChainEnd).pending = s.pending ∧
    (s.becomeChainEnd).choices = s.choices := by
  unfold State.becomeChainEnd; simp only []; split <;> simp

/-! ### The clock -/

/-- takeSwapTime changes no other part than: tbs. -/
@[simp] theorem State.takeSwapTime_frame (s : State) :
    (s.takeSwapTime).scu = s.scu ∧ (s.takeSwapTime).pdu = s.pdu ∧ (s.takeSwapTime).liu = s.liu ∧
    (s.takeSwapTime).acu = s.acu ∧ (s.takeSwapTime).sch = s.sch ∧ (s.takeSwapTime).stc = s.stc ∧
    (s.takeSwapTime).dmc = s.dmc ∧ (s.takeSwapTime).rot = s.rot ∧ (s.takeSwapTime).sup = s.sup ∧
    (s.takeSwapTime).svu = s.svu ∧ (s.takeSwapTime).mdc = s.mdc ∧ (s.takeSwapTime).localTime = s.localTime ∧
    (s.takeSwapTime).resetting = s.resetting ∧ (s.takeSwapTime).lineAsserted = s.lineAsserted ∧
    (s.takeSwapTime).pending = s.pending ∧ (s.takeSwapTime).choices = s.choices := by
  unfold State.takeSwapTime; split <;> simp

/-- enterSync changes no other part than: scu, tbs. -/
@[simp] theorem State.enterSync_frame (x : SyncState) (s : State) :
    (s.enterSync x).pdu = s.pdu ∧ (s.enterSync x).liu = s.liu ∧ (s.enterSync x).acu = s.acu ∧
    (s.enterSync x).sch = s.sch ∧ (s.enterSync x).stc = s.stc ∧ (s.enterSync x).dmc = s.dmc ∧
    (s.enterSync x).rot = s.rot ∧ (s.enterSync x).sup = s.sup ∧ (s.enterSync x).svu = s.svu ∧
    (s.enterSync x).mdc = s.mdc ∧ (s.enterSync x).localTime = s.localTime ∧
    (s.enterSync x).resetting = s.resetting ∧ (s.enterSync x).lineAsserted = s.lineAsserted ∧
    (s.enterSync x).pending = s.pending ∧ (s.enterSync x).choices = s.choices := by
  unfold State.enterSync; simp only []; split <;> simp

/-- scheduleStep changes no other part than: stc, dmc, rot, sch, mdc, tbs, svu, liu. -/
@[simp] theorem State.scheduleStep_frame (k : Int) (s : State) :
    (s.scheduleStep k).scu = s.scu ∧ (s.scheduleStep k).pdu = s.pdu ∧ (s.scheduleStep k).acu = s.acu ∧
    (s.scheduleStep k).sup = s.sup ∧ (s.scheduleStep k).localTime = s.localTime ∧
    (s.scheduleStep k).resetting = s.resetting ∧ (s.scheduleStep k).lineAsserted = s.lineAsserted ∧
    (s.scheduleStep k).pending = s.pending ∧ (s.scheduleStep k).choices = s.choices := by
  unfold State.scheduleStep; repeat' split
  all_goals simp

/-- moveTimes changes no other part than: stc, dmc, rot. -/
@[simp] theorem State.moveTimes_frame (k : Int) (s : State) :
    (s.moveTimes k).scu = s.scu ∧ (s.moveTimes k).pdu = s.pdu ∧ (s.moveTimes k).liu = s.liu ∧
    (s.moveTimes k).tbs = s.tbs ∧ (s.moveTimes k).acu = s.acu ∧ (s.moveTimes k).sch = s.sch ∧
    (s.moveTimes k).sup = s.sup ∧ (s.moveTimes k).svu = s.svu ∧ (s.moveTimes k).mdc = s.mdc ∧
    (s.moveTimes k).localTime = s.localTime ∧ (s.moveTimes k).resetting = s.resetting ∧
    (s.moveTimes k).lineAsserted = s.lineAsserted ∧ (s.moveTimes k).pending = s.pending ∧
    (s.moveTimes k).choices = s.choices := by
  simp [State.moveTimes]

/-- Closing every window that has passed changes no other part than what a report may change. -/
@[simp] theorem State.foldl_takeWindowEnd_frame (l : List (Fin 24)) (s : State) :
    let t := l.foldl (fun s n => s.takeWindowEnd n) s
    t.scu = s.scu ∧ t.pdu = s.pdu ∧ t.acu = s.acu ∧ t.sup = s.sup ∧ t.localTime = s.localTime ∧
    t.resetting = s.resetting ∧ t.lineAsserted = s.lineAsserted ∧ t.pending = s.pending ∧
    t.choices = s.choices := by
  induction l generalizing s with
  | nil => simp
  | cons n l ih => simpa using ih (s.takeWindowEnd n)


/-- stepClock changes no other part than: stc, dmc, rot, sch, mdc, tbs, svu, liu, scu. -/
@[simp] theorem State.stepClock_frame (k : Int) (s : State) :
    (s.stepClock k).pdu = s.pdu ∧ (s.stepClock k).acu = s.acu ∧ (s.stepClock k).sup = s.sup ∧
    (s.stepClock k).localTime = s.localTime ∧ (s.stepClock k).resetting = s.resetting ∧
    (s.stepClock k).lineAsserted = s.lineAsserted ∧ (s.stepClock k).pending = s.pending ∧
    (s.stepClock k).choices = s.choices := by
  unfold State.stepClock; simp only []; split <;> simp

/-- disciplineClock changes no other part than: stc, dmc, rot, sch, mdc, tbs, svu, liu, scu. -/
@[simp] theorem State.disciplineClock_frame (t : ShowTime) (d : Nat) (q : Quality) (s : State) :
    (s.disciplineClock t d q).pdu = s.pdu ∧ (s.disciplineClock t d q).acu = s.acu ∧
    (s.disciplineClock t d q).sup = s.sup ∧ (s.disciplineClock t d q).localTime = s.localTime ∧
    (s.disciplineClock t d q).resetting = s.resetting ∧
    (s.disciplineClock t d q).lineAsserted = s.lineAsserted ∧
    (s.disciplineClock t d q).pending = s.pending ∧ (s.disciplineClock t d q).choices = s.choices := by
  unfold State.disciplineClock State.markUnlocked State.markAcquiring State.markLocked State.markHoldover
  simp only []; repeat' split
  all_goals simp

/-- takePosition changes no other part than: stc, dmc, rot, sch, mdc, tbs, svu, liu. -/
@[simp] theorem State.takePosition_frame (h : Byte) (s : State) :
    (s.takePosition h).scu = s.scu ∧ (s.takePosition h).pdu = s.pdu ∧ (s.takePosition h).acu = s.acu ∧
    (s.takePosition h).sup = s.sup ∧ (s.takePosition h).localTime = s.localTime ∧
    (s.takePosition h).resetting = s.resetting ∧ (s.takePosition h).lineAsserted = s.lineAsserted ∧
    (s.takePosition h).pending = s.pending ∧ (s.takePosition h).choices = s.choices := by
  unfold State.takePosition; simp only []; repeat' split
  all_goals simp

/-- countMark changes no other part than: pdu. -/
@[simp] theorem State.countMark_frame (s : State) :
    (s.countMark).scu = s.scu ∧ (s.countMark).liu = s.liu ∧ (s.countMark).tbs = s.tbs ∧
    (s.countMark).acu = s.acu ∧ (s.countMark).sch = s.sch ∧ (s.countMark).stc = s.stc ∧
    (s.countMark).dmc = s.dmc ∧ (s.countMark).rot = s.rot ∧ (s.countMark).sup = s.sup ∧
    (s.countMark).svu = s.svu ∧ (s.countMark).mdc = s.mdc ∧ (s.countMark).localTime = s.localTime ∧
    (s.countMark).resetting = s.resetting ∧ (s.countMark).lineAsserted = s.lineAsserted ∧
    (s.countMark).pending = s.pending ∧ (s.countMark).choices = s.choices := by
  simp [State.countMark]

/-- takeSupervision changes no other part than: scu, tbs. -/
@[simp] theorem State.takeSupervision_frame (s : State) :
    (s.takeSupervision).pdu = s.pdu ∧ (s.takeSupervision).liu = s.liu ∧ (s.takeSupervision).acu = s.acu ∧
    (s.takeSupervision).sch = s.sch ∧ (s.takeSupervision).stc = s.stc ∧ (s.takeSupervision).dmc = s.dmc ∧
    (s.takeSupervision).rot = s.rot ∧ (s.takeSupervision).sup = s.sup ∧ (s.takeSupervision).svu = s.svu ∧
    (s.takeSupervision).mdc = s.mdc ∧ (s.takeSupervision).localTime = s.localTime ∧
    (s.takeSupervision).resetting = s.resetting ∧ (s.takeSupervision).lineAsserted = s.lineAsserted ∧
    (s.takeSupervision).pending = s.pending ∧ (s.takeSupervision).choices = s.choices := by
  unfold State.takeSupervision; split <;> simp

/-- takeHoldoverExpiry changes no other part than: stc, dmc, rot, sch, mdc, tbs, svu, liu, scu. -/
@[simp] theorem State.takeHoldoverExpiry_frame (s : State) :
    (s.takeHoldoverExpiry).pdu = s.pdu ∧ (s.takeHoldoverExpiry).acu = s.acu ∧
    (s.takeHoldoverExpiry).sup = s.sup ∧ (s.takeHoldoverExpiry).localTime = s.localTime ∧
    (s.takeHoldoverExpiry).resetting = s.resetting ∧ (s.takeHoldoverExpiry).lineAsserted = s.lineAsserted ∧
    (s.takeHoldoverExpiry).pending = s.pending ∧ (s.takeHoldoverExpiry).choices = s.choices := by
  unfold State.takeHoldoverExpiry; split <;> simp

/-! ### Tables and modes -/

/-- setPointer changes no other part than: tbs. -/
@[simp] theorem State.setPointer_frame (p : Option LoadPointer) (s : State) :
    (s.setPointer p).scu = s.scu ∧ (s.setPointer p).pdu = s.pdu ∧ (s.setPointer p).liu = s.liu ∧
    (s.setPointer p).acu = s.acu ∧ (s.setPointer p).sch = s.sch ∧ (s.setPointer p).stc = s.stc ∧
    (s.setPointer p).dmc = s.dmc ∧ (s.setPointer p).rot = s.rot ∧ (s.setPointer p).sup = s.sup ∧
    (s.setPointer p).svu = s.svu ∧ (s.setPointer p).mdc = s.mdc ∧ (s.setPointer p).localTime = s.localTime ∧
    (s.setPointer p).resetting = s.resetting ∧ (s.setPointer p).lineAsserted = s.lineAsserted ∧
    (s.setPointer p).pending = s.pending ∧ (s.setPointer p).choices = s.choices := by
  simp [State.setPointer]

/-- countDiscard changes no other part than: tbs. -/
@[simp] theorem State.countDiscard_frame (s : State) :
    (s.countDiscard).scu = s.scu ∧ (s.countDiscard).pdu = s.pdu ∧ (s.countDiscard).liu = s.liu ∧
    (s.countDiscard).acu = s.acu ∧ (s.countDiscard).sch = s.sch ∧ (s.countDiscard).stc = s.stc ∧
    (s.countDiscard).dmc = s.dmc ∧ (s.countDiscard).rot = s.rot ∧ (s.countDiscard).sup = s.sup ∧
    (s.countDiscard).svu = s.svu ∧ (s.countDiscard).mdc = s.mdc ∧ (s.countDiscard).localTime = s.localTime ∧
    (s.countDiscard).resetting = s.resetting ∧ (s.countDiscard).lineAsserted = s.lineAsserted ∧
    (s.countDiscard).pending = s.pending ∧ (s.countDiscard).choices = s.choices := by
  simp [State.countDiscard]

/-- openPointer changes no other part than: stc, dmc, rot, sch, mdc, tbs, svu, liu. -/
@[simp] theorem State.openPointer_frame (b : Byte) (i : Nat) (s : State) :
    (s.openPointer b i).scu = s.scu ∧ (s.openPointer b i).pdu = s.pdu ∧ (s.openPointer b i).acu = s.acu ∧
    (s.openPointer b i).sup = s.sup ∧ (s.openPointer b i).localTime = s.localTime ∧
    (s.openPointer b i).resetting = s.resetting ∧ (s.openPointer b i).lineAsserted = s.lineAsserted ∧
    (s.openPointer b i).pending = s.pending ∧ (s.openPointer b i).choices = s.choices := by
  unfold State.openPointer; simp only []; repeat' split
  all_goals simp

/-- writeNode changes no other part than: stc, dmc, rot, sch, mdc, tbs, svu, liu, pdu, sup. -/
@[simp] theorem State.writeNode_frame (r : NodeRecord) (s : State) :
    (s.writeNode r).scu = s.scu ∧ (s.writeNode r).acu = s.acu ∧ (s.writeNode r).localTime = s.localTime ∧
    (s.writeNode r).resetting = s.resetting ∧ (s.writeNode r).lineAsserted = s.lineAsserted ∧
    (s.writeNode r).pending = s.pending ∧ (s.writeNode r).choices = s.choices := by
  unfold State.writeNode; simp only []; split <;> simp

/-- writeItem changes no other part than: stc, dmc, rot, sch, mdc, tbs, svu, liu, pdu, sup. -/
@[simp] theorem State.writeItem_frame (t : TableId) (i : Nat) (bs : List Byte) (s : State) :
    (s.writeItem t i bs).scu = s.scu ∧ (s.writeItem t i bs).acu = s.acu ∧
    (s.writeItem t i bs).localTime = s.localTime ∧ (s.writeItem t i bs).resetting = s.resetting ∧
    (s.writeItem t i bs).lineAsserted = s.lineAsserted ∧ (s.writeItem t i bs).pending = s.pending ∧
    (s.writeItem t i bs).choices = s.choices := by
  unfold State.writeItem; simp only []; repeat' split
  all_goals simp

/-- writeItems changes no other part than what a write may change. -/
@[simp] theorem State.writeItems_frame (t : TableId) (k i : Nat) (bs : List Byte) (s : State) :
    (s.writeItems t k i bs).scu = s.scu ∧ (s.writeItems t k i bs).acu = s.acu ∧
    (s.writeItems t k i bs).localTime = s.localTime ∧ (s.writeItems t k i bs).resetting = s.resetting ∧
    (s.writeItems t k i bs).lineAsserted = s.lineAsserted ∧
    (s.writeItems t k i bs).pending = s.pending ∧ (s.writeItems t k i bs).choices = s.choices := by
  induction k generalizing s i bs with
  | zero => simp [State.writeItems]
  | succ k ih => unfold State.writeItems; simp [ih]


/-- enterConfig changes no other part than: mdc. -/
@[simp] theorem State.enterConfig_frame (s : State) :
    (s.enterConfig).scu = s.scu ∧ (s.enterConfig).pdu = s.pdu ∧ (s.enterConfig).liu = s.liu ∧
    (s.enterConfig).tbs = s.tbs ∧ (s.enterConfig).acu = s.acu ∧ (s.enterConfig).sch = s.sch ∧
    (s.enterConfig).stc = s.stc ∧ (s.enterConfig).dmc = s.dmc ∧ (s.enterConfig).rot = s.rot ∧
    (s.enterConfig).sup = s.sup ∧ (s.enterConfig).svu = s.svu ∧ (s.enterConfig).localTime = s.localTime ∧
    (s.enterConfig).resetting = s.resetting ∧ (s.enterConfig).lineAsserted = s.lineAsserted ∧
    (s.enterConfig).pending = s.pending ∧ (s.enterConfig).choices = s.choices := by
  simp [State.enterConfig]

/-- afterWrite changes no other part than: mdc, tbs. -/
@[simp] theorem State.afterWrite_frame (t : TableId) (s : State) :
    (s.afterWrite t).scu = s.scu ∧ (s.afterWrite t).pdu = s.pdu ∧ (s.afterWrite t).liu = s.liu ∧
    (s.afterWrite t).acu = s.acu ∧ (s.afterWrite t).sch = s.sch ∧ (s.afterWrite t).stc = s.stc ∧
    (s.afterWrite t).dmc = s.dmc ∧ (s.afterWrite t).rot = s.rot ∧ (s.afterWrite t).sup = s.sup ∧
    (s.afterWrite t).svu = s.svu ∧ (s.afterWrite t).localTime = s.localTime ∧
    (s.afterWrite t).resetting = s.resetting ∧ (s.afterWrite t).lineAsserted = s.lineAsserted ∧
    (s.afterWrite t).pending = s.pending ∧ (s.afterWrite t).choices = s.choices := by
  unfold State.afterWrite; repeat' split
  all_goals simp

/-- loadError changes no other part than: stc, dmc, rot, sch, mdc, tbs, svu, liu. -/
@[simp] theorem State.loadError_frame (t : TableId) (s : State) :
    (s.loadError t).scu = s.scu ∧ (s.loadError t).pdu = s.pdu ∧ (s.loadError t).acu = s.acu ∧
    (s.loadError t).sup = s.sup ∧ (s.loadError t).localTime = s.localTime ∧
    (s.loadError t).resetting = s.resetting ∧ (s.loadError t).lineAsserted = s.lineAsserted ∧
    (s.loadError t).pending = s.pending ∧ (s.loadError t).choices = s.choices := by
  simp [State.loadError]

/-- loadItems changes no other part than: stc, dmc, rot, sch, mdc, tbs, svu, liu, pdu, sup. -/
@[simp] theorem State.loadItems_frame (n : Byte) (bs : List Byte) (s : State) :
    (s.loadItems n bs).scu = s.scu ∧ (s.loadItems n bs).acu = s.acu ∧
    (s.loadItems n bs).localTime = s.localTime ∧ (s.loadItems n bs).resetting = s.resetting ∧
    (s.loadItems n bs).lineAsserted = s.lineAsserted ∧ (s.loadItems n bs).pending = s.pending ∧
    (s.loadItems n bs).choices = s.choices := by
  unfold State.loadItems; simp only []; repeat' split
  all_goals simp

/-- bankSwap changes no other part than: stc, dmc, rot, sch, mdc, tbs, svu, liu. -/
@[simp] theorem State.bankSwap_frame (t : ShowTime) (d : Half) (s : State) :
    (s.bankSwap t d).scu = s.scu ∧ (s.bankSwap t d).pdu = s.pdu ∧ (s.bankSwap t d).acu = s.acu ∧
    (s.bankSwap t d).sup = s.sup ∧ (s.bankSwap t d).localTime = s.localTime ∧
    (s.bankSwap t d).resetting = s.resetting ∧ (s.bankSwap t d).lineAsserted = s.lineAsserted ∧
    (s.bankSwap t d).pending = s.pending ∧ (s.bankSwap t d).choices = s.choices := by
  unfold State.bankSwap; repeat' split
  all_goals simp

/-- commitTables changes no other part than: stc, dmc, rot, sch, mdc, tbs, svu, liu. -/
@[simp] theorem State.commitTables_frame (d : Half) (s : State) :
    (s.commitTables d).scu = s.scu ∧ (s.commitTables d).pdu = s.pdu ∧ (s.commitTables d).acu = s.acu ∧
    (s.commitTables d).sup = s.sup ∧ (s.commitTables d).localTime = s.localTime ∧
    (s.commitTables d).resetting = s.resetting ∧ (s.commitTables d).lineAsserted = s.lineAsserted ∧
    (s.commitTables d).pending = s.pending ∧ (s.commitTables d).choices = s.choices := by
  unfold State.commitTables; repeat' split
  all_goals simp

/-- haltMode changes no other part than: stc, dmc, rot, sch, mdc, tbs, svu. -/
@[simp] theorem State.haltMode_frame (s : State) :
    (s.haltMode).scu = s.scu ∧ (s.haltMode).pdu = s.pdu ∧ (s.haltMode).liu = s.liu ∧
    (s.haltMode).acu = s.acu ∧ (s.haltMode).sup = s.sup ∧ (s.haltMode).localTime = s.localTime ∧
    (s.haltMode).resetting = s.resetting ∧ (s.haltMode).lineAsserted = s.lineAsserted ∧
    (s.haltMode).pending = s.pending ∧ (s.haltMode).choices = s.choices := by
  simp [State.haltMode]

/-- resumeMode changes no other part than: mdc, tbs, svu. -/
@[simp] theorem State.resumeMode_frame (s : State) :
    (s.resumeMode).scu = s.scu ∧ (s.resumeMode).pdu = s.pdu ∧ (s.resumeMode).liu = s.liu ∧
    (s.resumeMode).acu = s.acu ∧ (s.resumeMode).sch = s.sch ∧ (s.resumeMode).stc = s.stc ∧
    (s.resumeMode).dmc = s.dmc ∧ (s.resumeMode).rot = s.rot ∧ (s.resumeMode).sup = s.sup ∧
    (s.resumeMode).localTime = s.localTime ∧ (s.resumeMode).resetting = s.resetting ∧
    (s.resumeMode).lineAsserted = s.lineAsserted ∧ (s.resumeMode).pending = s.pending ∧
    (s.resumeMode).choices = s.choices := by
  unfold State.resumeMode; repeat' split
  all_goals simp

/-- enterLockedOut changes no other part than: dmc, rot, tbs, mdc, svu. -/
@[simp] theorem State.enterLockedOut_frame (s : State) :
    (s.enterLockedOut).scu = s.scu ∧ (s.enterLockedOut).pdu = s.pdu ∧ (s.enterLockedOut).liu = s.liu ∧
    (s.enterLockedOut).acu = s.acu ∧ (s.enterLockedOut).sch = s.sch ∧ (s.enterLockedOut).stc = s.stc ∧
    (s.enterLockedOut).sup = s.sup ∧ (s.enterLockedOut).localTime = s.localTime ∧
    (s.enterLockedOut).resetting = s.resetting ∧ (s.enterLockedOut).lineAsserted = s.lineAsserted ∧
    (s.enterLockedOut).pending = s.pending ∧ (s.enterLockedOut).choices = s.choices := by
  simp [State.enterLockedOut]

/-- takeConfigTimeout changes no other part than: stc, dmc, rot, sch, mdc, tbs, svu, liu. -/
@[simp] theorem State.takeConfigTimeout_frame (s : State) :
    (s.takeConfigTimeout).scu = s.scu ∧ (s.takeConfigTimeout).pdu = s.pdu ∧
    (s.takeConfigTimeout).acu = s.acu ∧ (s.takeConfigTimeout).sup = s.sup ∧
    (s.takeConfigTimeout).localTime = s.localTime ∧ (s.takeConfigTimeout).resetting = s.resetting ∧
    (s.takeConfigTimeout).lineAsserted = s.lineAsserted ∧ (s.takeConfigTimeout).pending = s.pending ∧
    (s.takeConfigTimeout).choices = s.choices := by
  unfold State.takeConfigTimeout; split <;> simp

/-! ### Acceptance -/

/-- refuse changes no other part than: stc, dmc, rot, sch, mdc, tbs, svu, liu, acu. -/
@[simp] theorem State.refuse_frame (r : RefuseReason) (s : State) :
    (s.refuse r).scu = s.scu ∧ (s.refuse r).pdu = s.pdu ∧ (s.refuse r).sup = s.sup ∧
    (s.refuse r).localTime = s.localTime ∧ (s.refuse r).resetting = s.resetting ∧
    (s.refuse r).lineAsserted = s.lineAsserted ∧ (s.refuse r).pending = s.pending ∧
    (s.refuse r).choices = s.choices := by
  unfold State.refuse; simp only []; split <;> simp

/-- takePlay changes no other part than: stc, dmc, rot, sch, mdc, tbs, svu, liu, acu. -/
@[simp] theorem State.takePlay_frame (n f a : Byte) (t : ShowTime) (c : Option Half) (s : State) :
    (s.takePlay n f a t c).scu = s.scu ∧ (s.takePlay n f a t c).pdu = s.pdu ∧
    (s.takePlay n f a t c).sup = s.sup ∧ (s.takePlay n f a t c).localTime = s.localTime ∧
    (s.takePlay n f a t c).resetting = s.resetting ∧ (s.takePlay n f a t c).lineAsserted = s.lineAsserted ∧
    (s.takePlay n f a t c).pending = s.pending ∧ (s.takePlay n f a t c).choices = s.choices := by
  unfold State.takePlay; split <;> simp

/-- takeMute changes no other part than: stc, dmc, rot, sch, mdc, tbs, svu, liu, acu. -/
@[simp] theorem State.takeMute_frame (d a : Byte) (t : ShowTime) (s : State) :
    (s.takeMute d a t).scu = s.scu ∧ (s.takeMute d a t).pdu = s.pdu ∧ (s.takeMute d a t).sup = s.sup ∧
    (s.takeMute d a t).localTime = s.localTime ∧ (s.takeMute d a t).resetting = s.resetting ∧
    (s.takeMute d a t).lineAsserted = s.lineAsserted ∧ (s.takeMute d a t).pending = s.pending ∧
    (s.takeMute d a t).choices = s.choices := by
  unfold State.takeMute; split <;> simp

end Sys2Proof.Machine
end

