-- ==== Sys2Proof/Laws/Schedule.lean ====
section
/-! SUPPORT. Show-time arithmetic, and what the schedule's operations do to the list of entries. -/
namespace Sys2Proof.Machine

/-! ### Show-time arithmetic -/

theorem reached_iff (t now : ShowTime) : reached t now = true ↔ signedDiff t now ≤ 0 := by simp [reached]

theorem before_iff (a b : ShowTime) : before a b = true ↔ signedDiff a b < 0 := by simp [before]

@[simp] theorem signedDiff_self (a : ShowTime) : signedDiff a a = 0 := by simp [signedDiff]

/-- Signed differences subtract while the result is within 31 bits. -/
theorem signedDiff_eq_sub (a b c : ShowTime)
    (low : -2147483648 ≤ signedDiff a c - signedDiff b c)
    (high : signedDiff a c - signedDiff b c < 2147483648) :
    signedDiff a b = signedDiff a c - signedDiff b c := by
  have e : a - b = (a - c) - (b - c) := by
    apply BitVec.eq_of_toNat_eq
    simp only [BitVec.toNat_sub]
    omega
  unfold signedDiff at *
  rw [e, BitVec.toInt_sub]
  apply Int.bmod_eq_of_le <;> omega

/-- A time n grains after now is n after it. -/
theorem signedDiff_plusGrains (now : ShowTime) (n : Nat) (h : n < 2147483648) :
    signedDiff (plusGrains now n) now = n := by
  have e : now + BitVec.ofNat 32 n - now = BitVec.ofNat 32 n := by rw [BitVec.add_comm]; simp
  simp only [signedDiff, plusGrains, e]
  show BitVec.toInt (BitVec.ofNat 32 n) = n
  rw [BitVec.toInt_eq_toNat_bmod, BitVec.toNat_ofNat, Nat.mod_eq_of_lt (by omega)]
  apply Int.bmod_eq_of_le <;> omega

/-- Both times moved by k keep their difference. -/
theorem signedDiff_shiftBy (k : Int) (a b : ShowTime) :
    signedDiff (shiftBy k a) (shiftBy k b) = signedDiff a b := by
  have e : a + BitVec.ofInt 32 k - (b + BitVec.ofInt 32 k) = a - b := by
    apply BitVec.eq_of_toNat_eq
    simp only [BitVec.toNat_sub, BitVec.toNat_add]
    omega
  simp only [signedDiff, shiftBy, e]

/-! ### Busy-until (R63) -/

/-- What is left of a busy-until is the busy-until itself, and it lies after now. -/
theorem lapsing_eq_some (now t : ShowTime) (b : Option ShowTime) :
    lapsing now b = some t ↔ b = some t ∧ 0 < signedDiff t now := by
  simp [lapsing, reached, Option.filter_eq_some_iff]

@[simp] theorem lapsing_none (now : ShowTime) : lapsing now none = none := rfl

/-! ### Insertion (R39) -/

@[simp] theorem length_insertEntry (e : Entry) (l : List Entry) :
    (insertEntry e l).length = l.length + 1 := by
  induction l with
  | nil => rfl
  | cons x xs ih => unfold insertEntry; split <;> simp [ih]

theorem insertEntry_perm (e : Entry) (l : List Entry) : (insertEntry e l).Perm (e :: l) := by
  induction l with
  | nil => exact List.Perm.refl _
  | cons x xs ih =>
    unfold insertEntry
    split
    · exact (ih.cons x).trans (List.Perm.swap e x xs)
    · exact List.Perm.refl _

@[simp] theorem mem_insertEntry (e x : Entry) (l : List Entry) :
    x ∈ insertEntry e l ↔ x = e ∨ x ∈ l := by
  rw [(insertEntry_perm e l).mem_iff, List.mem_cons]

theorem strikeCount_insertEntry (e : Entry) (l : List Entry) :
    strikeCount (insertEntry e l) = strikeCount (e :: l) := (insertEntry_perm e l).countP_eq _

theorem insertAll_perm (es l : List Entry) :
    (es.foldl (fun l e => insertEntry e l) l).Perm (es ++ l) := by
  induction es generalizing l with
  | nil => exact List.Perm.refl _
  | cons e es ih =>
    exact (ih (insertEntry e l)).trans
      (((insertEntry_perm e l).append_left es).trans List.perm_middle)

/-- Insertion counts every strike entry it inserts as accepted. -/
theorem insertAll_strikes (es : List Entry) (q : Sch) :
    strikeCount (q.insertAll es).entries = strikeCount es + strikeCount q.entries := by
  unfold Sch.insertAll strikeCount
  rw [(insertAll_perm es q.entries).countP_eq, List.countP_append]

/-- An entry stands after those that are not after it and before the others, if the list was so. -/
theorem insertEntry_eq (e : Entry) (l : List Entry) :
    insertEntry e l
      = (l.takeWhile fun x => reached x.action e.action)
        ++ e :: (l.dropWhile fun x => reached x.action e.action) := by
  induction l with
  | nil => rfl
  | cons x xs ih => unfold insertEntry; split <;> simp_all

/-! ### Flushes (R49 to R51) -/

theorem flush_strikes (p : Entry → Bool) (q : Sch) :
    strikeCount (q.flush p).entries + strikeCount (q.entries.filter p) = strikeCount q.entries := by
  unfold Sch.flush strikeCount
  simp only []
  induction q.entries with
  | nil => rfl
  | cons e es ih =>
    cases hp : p e <;> simp only [List.filter_cons, hp, Bool.not_true, Bool.not_false, if_true,
      Bool.false_eq_true, if_false, List.countP_cons] <;> omega

theorem flush_mem (p : Entry → Bool) (q : Sch) (e : Entry) :
    e ∈ (q.flush p).entries ↔ e ∈ q.entries ∧ p e = false := by simp [Sch.flush]

/-- Dropping the due damper entries keeps every strike entry, and every entry that is not due. -/
theorem dropDueDampers_mem (s : State) (e : Entry) :
    e ∈ s.dropDueDampers.sch.entries
      ↔ e ∈ s.sch.entries ∧ (e.isStrike = true ∨ reached e.action s.now = false) := by
  simp [State.dropDueDampers, State.onSch, Entry.isDueDamper]

/-- Dropping the due damper entries changes no count of strikes. -/
theorem dropDueDampers_strikes (s : State) :
    strikeCount s.dropDueDampers.sch.entries = strikeCount s.sch.entries := by
  simp only [State.dropDueDampers, State.onSch, strikeCount, List.countP_filter]
  refine List.countP_congr fun e _ => ?_
  cases h : e.isStrike <;> simp [Entry.isDueDamper, h]

/-- After a flush of everything nothing is pending. -/
@[simp] theorem flushSchedule_entries (s : State) : s.flushSchedule.sch.entries = [] := by
  simp [State.flushSchedule, State.onSch, Sch.flush]

end Sys2Proof.Machine
end

