-- ==== Sys2Proof/Laws/Time.lean ====
section
/-! SUPPORT. What a command that is taken, and the operations of time, can do. -/
namespace Sys2Proof.Machine

/-! ### Commands taken unless a reset lasts -/

/-- Outside a reset a command has its effect. -/
theorem running_awake {s : State} (h : s.resetting = none) (f : State → State) :
    running f s = .next (f s) := by simp [running, h]

/-- While a reset lasts a command changes nothing. -/
theorem running_resetting {s : State} (h : s.resetting ≠ none) (f : State → State) :
    running f s = .next s := by
  simp [running, Option.isSome_iff_ne_none, h]

/-- The state after a command is the one it answers. -/
theorem State.after_eq {c : Instr} {s t : State} (h : exec c s = .next t) : s.after c = t := by
  simp [State.after, h]

/-! ### Events of the show clock -/

/-- Taking an event of the show clock leaves the clock, local time and the queue as they are. -/
theorem take_frame (s : State) (e : ShowEvent) :
    (s.take e).scu = s.scu ∧ (s.take e).pdu = s.pdu ∧ (s.take e).sup = s.sup ∧
    (s.take e).localTime = s.localTime ∧ (s.take e).resetting = s.resetting ∧
    (s.take e).lineAsserted = s.lineAsserted ∧ (s.take e).pending = s.pending ∧
    (s.take e).choices = s.choices := by
  cases e <;> simp [State.take]

/-- A fold of an operation that keeps a part keeps it. -/
theorem foldl_keeps {α β : Type} (part : State → β) (f : State → α → State)
    (keeps : ∀ s a, part (f s a) = part s) (l : List α) (s : State) : part (l.foldl f s) = part s := by
  induction l generalizing s with
  | nil => rfl
  | cons a l ih => rw [List.foldl_cons, ih, keeps]

/-- Taking every drive end touches the channels only. -/
theorem endDrives_frame (s : State) :
    s.endDrives.scu = s.scu ∧ s.endDrives.sch = s.sch ∧ s.endDrives.localTime = s.localTime ∧
    s.endDrives.resetting = s.resetting ∧ s.endDrives.pending = s.pending ∧ s.endDrives.mdc = s.mdc := by
  unfold State.endDrives
  refine ⟨?_, ?_, ?_, ?_, ?_, ?_⟩
  · exact foldl_keeps State.scu _ (fun s n => by simp) _ _
  · exact foldl_keeps State.sch _ (fun s n => by simp) _ _
  · exact foldl_keeps State.localTime _ (fun s n => by simp) _ _
  · exact foldl_keeps State.resetting _ (fun s n => by simp) _ _
  · exact foldl_keeps State.pending _ (fun s n => by simp) _ _
  · exact foldl_keeps State.mdc _ (fun s n => by simp) _ _

/-- Settling a grain leaves the clock, local time and the queue as they are. -/
theorem settle_frame (n : Nat) (s : State) :
    (s.settle n).scu = s.scu ∧ (s.settle n).localTime = s.localTime ∧
    (s.settle n).resetting = s.resetting ∧ (s.settle n).pending = s.pending := by
  induction n generalizing s with
  | zero => simp [State.settle, endDrives_frame]
  | succ n ih =>
    unfold State.settle
    split
    · simp
    · rename_i e _
      obtain ⟨h1, _, _, h2, h3, _, h4, _⟩ := take_frame s.chosen e
      obtain ⟨i1, i2, i3, i4⟩ := ih (s.chosen.take e)
      exact ⟨i1.trans h1, i2.trans h2, i3.trans h3, i4.trans h4⟩

/-- What is picked is one of the list. -/
theorem pick_mem {α : Type} {l : List α} {s : State} {a : α} (h : s.pick l = some a) : a ∈ l :=
  List.mem_of_getElem? h

/-- Nothing is picked from the empty list only. -/
theorem pick_none {α : Type} {l : List α} {s : State} : s.pick l = none ↔ l = [] := by
  unfold State.pick
  rw [List.getElem?_eq_none_iff]
  constructor
  · intro h
    cases l with
    | nil => rfl
    | cons a l => exact absurd (Nat.mod_lt (Config.choice s.choices) (Nat.succ_pos _)) (Nat.not_lt.2 h)
  · rintro rfl; simp

/-- The parts a slew grain leaves as they are, whatever falls at the grain skipped. -/
theorem takeSlewGrain_frame (s : State) :
    s.takeSlewGrain.resetting = s.resetting ∧ s.takeSlewGrain.pending = s.pending := by
  unfold State.takeSlewGrain
  simp only []
  split
  · split <;> simp [settle_frame]
  · simp

end Sys2Proof.Machine
end

