-- ==== Sys2Proof/Tests/Slice0.lean ====
section
/-! SUPPORT. The model's own tests: ill-formed terms, the manual's worked values, single commands on small states,
and, for every statement with hypotheses, states that meet them. -/
namespace Sys2Proof.Tests
open Sys2Proof Sys2Proof.Machine

-- One theorem at a time: many at once would each take a thread with a stack of its own.
set_option Elab.async false

/-! ### Helpers -/

/-- The next state of an outcome. -/
def after : Result → State
  | .next t => t
  | .fault r => nomatch r
  | .refused _ => State.reset

/-- A command run on a state. -/
def run (c : Instr) (s : State) : State := after (exec c s)

/-- Striker 5 of the manual's worked examples (02, 04). -/
def mallet : StrikerRecord :=
  { enabled := true, fHard := 600, fSoft := 2400, wMin := 120, wMax := 1500, recovery := 2000, hDerate := 4000
    hCut := 8000, cooling := 40, sense := true, impactWindow := 200, adapt := true }

/-- A damper with travel times. -/
def pad : DamperRecord := { enabled := true, releaseTravel := 400, engageTravel := 650, chokeHold := 100 }

/-- Note 60 of the manual's worked examples (01, 02). -/
def note60 : NoteEntry :=
  { enabled := true, primary := 5, alternate := some 6, curve := 2, offset := 3, choke := some 1 }

/-- The tables of a small piece: note 60 on striker 5, else 6, with choke damper 1. -/
def tables : Tbs :=
  { strikers := Vector.replicate 24 mallet
    dampers := Vector.replicate 4 pad
    node := { rotorEnabled := true, indexEnabled := true }
    bankA :=
      { notes := (Vector.replicate 128 {}).set 60 note60
        curves := Vector.replicate 512 640 }
    bankB := { curves := Vector.replicate 512 16 } }

/-- A clock in LOCKED at a show time. -/
def lockedAt (now : ShowTime) : Scu := { now := now, sync := .locked, confidence := 8, lastMark := some 0 }

/-- A playing node at a show time. -/
def playing (now : ShowTime) : State :=
  { State.reset with mdc := { mode := .run }, scu := lockedAt now, tbs := tables, acu := { gain := 191 } }

/-- The strike entry of the first acceptance case (02). -/
def strike5 : Entry := { action := 998977, target := 1000000, work := .strike 5 480 1000000 }

/-- A playing node whose entry has come due at its action time. -/
def dueNow : State := { playing 998977 with sch := { entries := [strike5], accepted := 1 } }

/-- A playing node on which striker 5 drives from 998,977 for 336 grains. -/
def driving (now : ShowTime) : State :=
  (playing now).setChannel 5
    { output := true, drive := some ⟨998977, 336⟩, heat := 5160, trim := -12, busyUntil := some 1002477
      window := some 1000000 }

/-- A node that is placed as number 2. -/
def placed (s : State) : State := { s with liu := { s.liu with position := 2 } }

/-- A node in another mode. -/
def inMode (m : Mode) (s : State) : State := { s with mdc := { s.mdc with mode := m } }

/-- A frame on the downstream transmitter. -/
def sendingSome : Option Sending := some ⟨haltFrame 9, .copy false⟩

/-! ### Ill-formed commands are refused by the check -/

theorem test_wf_load_data_needs_a_byte : (Instr.loadData 1 0 []).wf = false := by decide
theorem test_wf_load_data_at_most_238 : (Instr.loadData 1 0 (List.replicate 239 0)).wf = false := by
  decide +kernel
theorem test_wf_unknown_subject_is_unknown : (Instr.askUnknownSubject 1 9).wf = false := by decide
theorem test_wf_unknown_kind_is_unknown : (Instr.unknownKindFrame 0x10 []).wf = false := by decide
theorem test_wf_unknown_kind_fits : (Instr.unknownKindFrame 0x99 (List.replicate 241 0)).wf = false := by
  decide +kernel
theorem test_wf_malformed_kind_is_known : (Instr.malformedFrame 0x99 []).wf = false := by decide
theorem test_wf_malformed_length_is_wrong : (Instr.malformedFrame 0x26 [1]).wf = false := by decide
theorem test_wf_malformed_fits : (Instr.malformedFrame 0x26 (List.replicate 241 0)).wf = false := by
  decide +kernel
theorem test_wf_relay_is_no_returned_probe : (Instr.relayFrame 0x30 [1, 2, 0, 0]).wf = false := by decide
theorem test_wf_relay_fits : (Instr.relayFrame 0x40 (List.replicate 241 0)).wf = false := by decide +kernel
theorem test_wf_good_ones : (Instr.loadData 1 0 [7]).wf = true ∧ (Instr.malformedFrame 0x26 []).wf = true ∧
    (Instr.relayFrame 0x30 [1, 2, 0]).wf = true ∧ (Instr.askUnknownSubject 1 10).wf = true := by decide

/-! ### Words and worked values of the manual -/

theorem test_crc_of_the_example :
    crc16 [0x31, 0x32, 0x33, 0x34, 0x35, 0x36, 0x37, 0x38, 0x39] = 0x29B1#16 := by decide +kernel
theorem test_frame_halt_is_read :
    receive .upstream true ([0x26, 0x01, 0xFF] ++ bytes2 (crc16 [0x26, 0x01, 0xFF])) = .halt 255 := by
  decide +kernel
theorem test_frame_set_is_read :
    receive .upstream true ([0x12, 3, 7, 0, 0x80] ++ bytes2 (crc16 [0x12, 3, 7, 0, 0x80])) = .setMasterGain 7 128 := by
  decide +kernel
theorem test_frame_of_wrong_crc_is_bad :
    receive .upstream true ([0x13, 2, 7, 0] ++ bytes2 (crc16 [0x13, 2, 7, 0] + 1)) = .badFrame .upstream := by
  decide +kernel
theorem test_frame_interrupted_is_bad :
    receive .upstream false ([0x26, 0x01, 0xFF] ++ bytes2 (crc16 [0x26, 0x01, 0xFF])) = .badFrame .upstream := by
  decide +kernel
theorem test_frame_notice_upstream_is_unknown :
    receive .upstream true ([0x41, 1, 2] ++ bytes2 (crc16 [0x41, 1, 2])) = .unknownKindFrame 0x41 [2] := by
  decide +kernel
theorem test_frame_probe_downstream_returns :
    receive .downstream true ([0x30, 4, 2, 9, 1, 0] ++ bytes2 (crc16 [0x30, 4, 2, 9, 1, 0]))
      = .returnedProbe 2 9 256 := by decide +kernel

/-- The articulations of the worked resolution (01). -/
def worked : Bank :=
  { articulations := #v[{ offset := -8 }, { curve := some 4, offset := 4 }, {}] }

theorem test_worked_resolution :
    let n : NoteEntry := { enabled := true, primary := 5, curve := 2, offset := 3 }
    (resolveForce worked n 58 2, resolveCurve worked n 2) = (63, 4) ∧
    (resolveForce worked n 20 1, resolveCurve worked n 1) = (15, 2) ∧
    (resolveForce worked n 0 3, resolveCurve worked n 3) = (4, 2) ∧
    (resolveForce worked n 62 1, resolveCurve worked n 1) = (55, 2) ∧
    resolveForce worked { n with offset := -5 } 0 0 = 1 := by decide +kernel
theorem test_worked_provisional_width : provisionalWidth 640 191 = 480 := by decide
theorem test_worked_flight :
    flightTime mallet (-12) 48 = 1023 ∧
    flightTime { mallet with fHard := 650, fSoft := 2300 } 20 48 = 1069 := by decide +kernel
theorem test_worked_widths :
    [finalWidth mallet 3000 2047 480, finalWidth mallet 4000 2047 480, finalWidth mallet 5200 2047 480,
      finalWidth mallet 5200 300 480, finalWidth mallet 7600 2047 150, finalWidth mallet 3000 50 480,
      finalWidth mallet 0 2047 2000] = [480, 480, 336, 300, 120, 120, 1500] := by decide +kernel
theorem test_worked_step_periods :
    [1, 7, 150, 180, 1500].map stepPeriod = [100000, 14285, 666, 555, 66] := by decide +kernel
theorem test_worked_choke_and_strike :
    let s := run (.play 0 60 45 0 1000000 (some 30000))
      ((playing 990000).setChannel 5 { trim := -12, busyUntil := some 985000 })
    s.sch.entries =
      [strike5, { action := 1029350, target := 1030000, work := .damper 1 .engage true }] ∧
    s.sch.accepted = 1 ∧ s.sch.damperAccepted = 1 ∧ s.acu.margins.last = some 8977 := by decide +kernel
theorem test_worked_alternate :
    let s := run (.play 0 60 45 0 1002000 none)
      { (playing 990400).setChannel 5 { trim := -12 } with sch := { entries := [strike5], accepted := 1 } }
    s.sch.entries.map (fun e => match e.work with | .strike n _ _ => n | .damper .. => 0) = [5, 6] := by
  decide +kernel
theorem test_worked_bank_bytes :
    NoteEntry.ofBytes [1, 24, 0xFF, 9, 0x80, 4] =
      { enabled := false, primary := 0, alternate := none, curve := 7, offset := -16, choke := none } := by
  decide +kernel

/-! ### Single commands -/

theorem test_mark_steps_from_unlocked :
    let s := run (.mark 5000 3 160 1) State.reset
    s.scu.now = 5010 ∧ s.scu.sync = .acquiring ∧ s.liu.position = 4 ∧ s.scu.lastPathDelay = 160 := by
  decide +kernel
theorem test_mark_early_is_a_violation :
    let s := run (.mark 100 3 0 1) (playing 100)
    s.scu.confidence = 6 ∧ s.svu.faults.length = 1 := by decide +kernel
theorem test_mute_all_dampers :
    let s := run (.mute 255 0xFF 0 1000500) (playing 999000)
    s.sch.entries.length = 4 ∧ s.sch.damperAccepted = 4 := by decide +kernel
theorem test_set_master_gain : (run (.setMasterGain 0 128) State.reset).acu.gain = 128 := by decide +kernel
theorem test_set_master_gain_of_another : (run (.setMasterGain 9 128) State.reset).acu.gain = 255 := by
  decide +kernel
theorem test_set_quiet_ceiling : (run (.setQuietCeiling 0 2048) State.reset).acu.ceiling = 2047 := by
  decide +kernel
theorem test_set_rotor_rate : (run (.setRotorRate 0 1501) (playing 0)).rot.target = 1500 := by decide +kernel
theorem test_set_rotor_align_not_after_now : (run (.setRotorAlign 0 7) (playing 7)).rot.align = none := by
  decide +kernel
theorem test_flush_all : (run (.flushAll 0) dueNow).sch.flushed = 1 := by decide +kernel
theorem test_flush_from_time :
    (run (.flushFromTime 0 1000001) dueNow).sch.entries = [strike5] ∧
    (run (.flushFromTime 0 1000000) dueNow).sch.entries = [] := by decide +kernel
theorem test_load_open_beyond :
    let s := run (.loadOpen 255 1 4) State.reset
    s.tbs.pointer = none ∧ s.svu.faults.map FaultRecord.pair = [.loadError .damper] := by decide +kernel
theorem test_load_data_enters_config :
    let s := run (.loadData 255 0 [1, 0, 5, 0, 6, 0, 7]) (run (.loadOpen 255 1 3) State.reset)
    s.damperRecord 3 = ⟨true, 5, 6, 7⟩ ∧ s.mdc.mode = .config ∧ s.tbs.pointer = none ∧
    s.mdc.timer = some 96000000 := by decide +kernel
set_option maxRecDepth 100000 in
theorem test_commit_of_the_defaults :
    (run (.commit 255 State.reset.tbs.configDigest) State.reset).mdc.mode = .run := by decide +kernel
set_option maxRecDepth 100000 in
theorem test_bankswap_of_wrong_digest :
    (run (.bankswap 255 0 (State.reset.tbs.bankB.digest + 1)) State.reset).svu.faults.length = 1 := by
  decide +kernel
theorem test_halt_and_resume :
    (run (.halt 255) dueNow).mdc.mode = .safe ∧
    (run (.resume 255) (run (.halt 255) dueNow)).mdc.mode = .run := by decide +kernel
theorem test_safe_flushes_all_but_due_dampers :
    let waiting : Entry := ⟨998978, 0, .damper 1 .engage false⟩
    let s := { dueNow with sch := { entries := [{ waiting with action := 998977 }, strike5, waiting] } }
    let t := (run (.halt 255) s).sch
    (t.entries = [] ∧ t.damperDropped = 1 ∧ t.damperFlushed = 1 ∧ t.flushed = 1) ∧
    (run (.halt 255) (run .due s)).sch.damperDropped = 0 := by decide +kernel
theorem test_restart_of_the_own_position :
    (run (.restart 2) (placed State.reset)).resetting = some ⟨.link, some 160⟩ := by decide +kernel
theorem test_ask_status_starts_at_once :
    (run (.askStatus 255) State.reset).liu.sendingUp =
      some ⟨0x40, [255, 0] ++ State.reset.statusContent⟩ := by decide +kernel
theorem test_ask_striker_24_has_no_content :
    (run (.askStriker 255 24) State.reset).liu.sendingUp = some ⟨0x40, [255, 3, 24]⟩ := by decide +kernel
theorem test_ask_table_past_the_end :
    (run (.askTable 255 0 0 24 1) State.reset).liu.sendingUp = some ⟨0x40, [255, 9, 0, 0, 0, 24, 0]⟩ := by
  decide +kernel
theorem test_probe_is_returned_at_once :
    (run (.probe 1 9 0) State.reset).liu.sendingUp = some ⟨0x30, [1, 9, 0, 0]⟩ := by decide +kernel
theorem test_bad_frames_raise_link_errors :
    let s := run (.badFrame .upstream) { State.reset with liu := { leakUp := 56 } }
    s.liu.errorsUp = true ∧ s.svu.faults.map FaultRecord.pair = [.linkErrors .upstream] := by decide +kernel
theorem test_unknown_kind_goes_on :
    (run (.unknownKindFrame 0x99 [1]) State.reset).liu.sendingDown = some ⟨⟨0x99, [1]⟩, .copy false⟩ := by
  decide +kernel
theorem test_malformed_probe_stops_here :
    (run (.malformedFrame 0x30 [1]) State.reset).liu.sendingDown = none := by decide +kernel
theorem test_returned_probe_gives_the_first_sample :
    let s := run (.returnedProbe 9 4 100)
      { State.reset with localTime := 1000, pdu := { outstanding := some ⟨4, some 200⟩ } }
    s.pdu.average = 326 ∧ s.pdu.samples = 1 ∧ s.pdu.quality = .coarse := by decide +kernel
theorem test_relay_frame_starts_at_once :
    (run (.relayFrame 0x40 [1, 2]) State.reset).liu.sendingUp = some ⟨0x40, [1, 2]⟩ := by decide +kernel
theorem test_probe_send :
    let s := run .probeSend { State.reset with pdu := { probeDue := .window 0, nextProbe := 255 } }
    s.liu.sendingDown = some ⟨⟨0x30, [255, 255, 0, 0]⟩, .probe⟩ ∧ s.pdu.nextProbe = 0 := by decide +kernel
theorem test_probe_window_expiry :
    (run .probeWindowExpiry { State.reset with localTime := 1, pdu := { probeDue := .window 0 } }).pdu.probeDue
      = .none := by decide +kernel
theorem test_fourth_missing_sample :
    (run .probeTimeout
        { State.reset with
          localTime := 4096, pdu := { outstanding := some ⟨0, some 0⟩, missing := 3 } }).svu.faults.map
        FaultRecord.pair
      = [.downstreamLost] := by decide +kernel
theorem test_due_starts_the_worked_drive :
    let s := run .due ((dueNow).setChannel 5 { heat := 5200, trim := -12 })
    (s.channel 5).drive = some ⟨998977, 336⟩ ∧ (s.channel 5).busyUntil = some 1002477 ∧
    s.sch.started = 1 := by decide +kernel
theorem test_late_drive_start_has_its_busy_until_lapsed :
    let s := run .due
      { dueNow with scu := lockedAt 1002477, tbs := { tables with node := { lateTolerance := 3500 } } }
    (s.channel 5).drive ≠ none ∧ (s.channel 5).busyUntil = none ∧ s.sentBusyUntil 5 = 1002477 := by decide +kernel
theorem test_backward_step_revives_no_busy_until :
    let s := State.stepClock (-10) (driving 1002477)
    s.now = 1002467 ∧ (s.channel 5).busyUntil = none ∧
    ((State.stepClock (-10) (driving 1002476)).channel 5).busyUntil = some 1002477 := by decide +kernel
theorem test_drive_end_of_the_worked_drive :
    let s := run (.driveEnd 5) (driving 999313)
    (s.channel 5).heat = 5496 ∧ (s.channel 5).recoveryEnd = some 1001313 := by decide +kernel
theorem test_impact_of_the_worked_drive :
    ((run (.impactPulse 5) (driving 1000030)).channel 5).trim = -5 := by decide +kernel
theorem test_impact_window_end :
    ((run (.impactWindowEnd 5) (driving 1000201)).channel 5).missRun = 1 ∧
    ((run (.impactWindowEnd 5) (driving 1000200)).channel 5).missRun = 0 := by decide +kernel
theorem test_cooling_tick :
    ((run .coolingTick { driving 0 with localTime := 16384 }).channel 5).heat = 5120 := by decide +kernel
theorem test_supply_cut_truncates_the_drive :
    let s := run .supplyFilterExpiry
      { driving 999227 with localTime := 16000, sup := { level := 0, candidate := some ⟨.cut, 0⟩ } }
    (s.channel 5).heat = 5410 ∧ (s.channel 5).recoveryEnd = some 1001227 ∧ s.sup.dips = 1 ∧
    s.svu.faults.map FaultRecord.pair = [.supplyLow, .supplyCut] := by decide +kernel
theorem test_travel_end_starts_a_choke_hold :
    let s := run (.travelEnd 1)
      ((playing 700).setDamper 1
        { state := .engaging, travelEnd := some 650, choke := true, handedOver := true })
    (s.damper 1).hold = some 750 ∧ s.sch.damperPerformed = 1 := by decide +kernel
theorem test_choke_hold_expiry :
    (run (.chokeHoldExpiry 1) ((playing 750).setDamper 1 { hold := some 750 })).damper 1
      = { state := .releasing, coil := true, travelEnd := some 1150 } := by decide +kernel
theorem test_ramp_from_rest :
    let s := run .rampTick { playing 500 with localTime := 16384, rot := { target := 180 } }
    s.rot.current = 50 ∧ s.rot.output = true ∧ s.rot.position = 1 ∧ s.rot.cycle = some ⟨1500, 2000⟩ := by
  decide +kernel
theorem test_step_edges :
    (run .stepFallingEdge
        { playing 277 with rot := { current := 180, output := true, cycle := some ⟨277, 555⟩ } }).rot.cycle
      = some ⟨555, 555⟩ ∧
    (run .stepRisingEdge { playing 555 with rot := { current := 180, cycle := some ⟨555, 555⟩ } }).rot.cycle
      = some ⟨832, 555⟩ := by decide +kernel
theorem test_align_takes_effect :
    (run .alignTakesEffect
        { playing 900 with
          rot := { current := 100, output := true, cycle := some ⟨1000, 1000⟩, align := some 900 } }).rot.cycle
      = some ⟨1900, 1000⟩ := by decide +kernel
theorem test_index_pulse :
    (run .indexPulse { playing 0 with rot := { position := 3 } }).rot.lastIndexError = 3 := by decide +kernel
theorem test_swap_time_reached :
    (run .swapTimeReached { playing 9 with tbs := { tables with pendingSwap := some 9 } }).tbs.playBank = .b := by
  decide +kernel
theorem test_supervision_deadline :
    (run .supervisionDeadline { playing 9 with localTime := 32000 }).scu.sync = .holdover := by decide +kernel
theorem test_holdover_expiry :
    let s := run .holdoverExpiry
      { dueNow with localTime := 3200000, scu := { lockedAt 0 with sync := .holdover, holdoverStart := some 0 } }
    s.scu.sync = .unlocked ∧ s.sch.flushed = 1 ∧ s.svu.faults.length = 1 := by decide +kernel
theorem test_config_timeout :
    (run .configTimeout { State.reset with localTime := 7, mdc := { mode := .config, timer := some 7 } }).mdc.mode
      = .lockedOut := by decide +kernel
theorem test_driver_fault_suspends_its_group :
    let s := run (.driverFaultFilterExpiry 0)
      { run (.driverFaultInputChange 0 true) (driving 999000) with localTime := 80 }
    s.channelState 5 = .suspended ∧ (s.channel 5).heat = 5183 := by decide +kernel
theorem test_supply_level_makes_a_candidate :
    (run (.supplyLevelChange 119) State.reset).sup.candidate = some ⟨.cut, 0⟩ := by decide +kernel
theorem test_lamp_blink :
    (run .lampBlinkPhase { State.reset with svu := { lamp := .fastBlink } }).svu.lampOn = true := by
  decide +kernel
theorem test_resets :
    (run .resetEnd (run .powerOn (driving 5))).mdc.mode = .idle ∧
    (run .resetEnd { run .resetLineRelease (run .resetLine (driving 5)) with localTime := 160 }).mdc.resetCause
      = .line := by decide +kernel
theorem test_boundaries_end_a_transmission :
    (run .upstreamFrameBoundary { State.reset with liu := { sendingUp := some ⟨0x40, []⟩ } }).liu.sendingUp
      = none ∧
    (run .downstreamFrameBoundary { State.reset with liu := { sendingDown := sendingSome } }).liu.sendingDown
      = none := by decide +kernel
theorem test_a_step_takes_the_front :
    (after (step { State.reset with pending := [.setMasterGain 0 1, .halt 255] })).pending = [.halt 255] := by
  decide +kernel
theorem test_reset_queue_is_empty : State.reset.pending = [] := by decide +kernel
theorem test_slew_grain_back :
    (run .slewGrain
        { playing 50 with localTime := 31, scu := { lockedAt 50 with slew := -3, slewCount := 15 } }).scu.slew
      = -2 := by decide +kernel

/-! ### The statements' hypotheses are met -/

/-- A playing node with a full schedule. -/
def full : State := { playing 990000 with sch := { entries := List.replicate 256 { strike5 with action := 998000 } } }

/-- A playing node on which a damper entry is due. -/
def damperDue (now : ShowTime) (a : DamperAction) (choke : Bool) (d : Damper) : State :=
  ({ playing now with sch := { entries := [⟨0, 0, .damper 1 a choke⟩] } }).setDamper 1 d

/-- A slew grain is next. -/
def slewing (slew : Int) : State :=
  { playing 50 with localTime := 31, scu := { lockedAt 50 with slew := slew, slewCount := 15 } }

theorem test_meets_idle_step :
    let tick : State := { State.reset with localTime := 16384 }
    let grain : State := { State.reset with localTime := 15 }
    let off := run .powerOn State.reset
    (tick.pending = [] ∧ tick.fallenEvents ≠ []) ∧
    ((slewing 3).pending = [] ∧ (slewing 3).fallenEvents = [] ∧ (slewing 3).Awake ∧ (slewing 3).slewNext) ∧
    (grain.fallenEvents = [] ∧ grain.Awake ∧ grain.slewNext = false ∧ (grain.localTime + 1) % 16 = 0) ∧
    (State.reset.fallenEvents = [] ∧ (State.reset.localTime + 1) % 16 ≠ 0) ∧
    (off.pending = [] ∧ off.fallenEvents = [] ∧ ¬off.Awake) := by decide +kernel
/-- Of two busy-untils and of two impact windows that which has come and that which has not; and the end of a
reset, at its instant and one fine unit before. -/
theorem test_meets_fallen_events :
    let channels (s : State) : State :=
      ((s.setChannel 0 { busyUntil := some 9 }).setChannel 1 { busyUntil := some 10, window := some 8 }).setChannel 2
        { window := some 9 }
    let s := channels { State.reset with scu := { lockedAt 9 with sync := .unlocked } }
    let resetting : State := { State.reset with resetting := some { cause := .link, endsAt := some 160 } }
    s.Awake ∧ .busyUntilLapse 0 ∈ s.fallenEvents ∧ .busyUntilLapse 1 ∉ s.fallenEvents ∧
    .impactWindowEnd 1 ∈ s.fallenEvents ∧ .impactWindowEnd 2 ∉ s.fallenEvents ∧
    State.fallenEvents { resetting with localTime := 160 } = [.resetEnd] ∧
    State.fallenEvents { resetting with localTime := 159 } = [] := by decide +kernel
theorem test_meets_resets_begin :
    let line := run .resetLine State.reset
    let held : State := { State.reset with lineAsserted := true }
    State.reset.lineAsserted = false ∧ held.lineAsserted ∧
    (line.lineAsserted ∧ line.resetting = some ⟨.line, none⟩) ∧ (∀ e, held.resetting ≠ some ⟨.line, e⟩) ∧
    ((placed State.reset).Awake ∧ (placed State.reset).Owns 2 ∧ (placed State.reset).Owns 2 ∧
      ¬State.reset.Owns 255 ∧ ¬(placed State.reset).Owns 3) ∧ ¬line.Awake := by
  refine ⟨by decide, by decide, by decide +kernel, ?_, by decide +kernel, by decide +kernel⟩
  intro e h; cases h
theorem test_meets_reset_end :
    let s (n : Nat) : State := { State.reset with localTime := n, resetting := some ⟨.link, some 160⟩ }
    (∃ r, (run .powerOn State.reset).resetting = some r ∧ r.cause = .power) ∧
    (∃ e, (⟨.link, some 160⟩ : ResetRun).endsAt = some e ∧ e ≤ (s 160).localTime) ∧
    (∃ e, (⟨.link, some 160⟩ : ResetRun).endsAt = some e ∧ (s 159).localTime < e) :=
  ⟨⟨_, rfl, rfl⟩, ⟨160, rfl, by decide⟩, ⟨160, rfl, by decide⟩⟩
theorem test_meets_frames :
    (∃ f : Frame, f.payload.length = 240) ∧
    ((Instr.loadData 1 0 (List.replicate 238 7)).wf = true ∧
      (arrivesAs (.loadData 1 0 (List.replicate 238 7))).isSome) ∧
    ((Instr.relayFrame 0x30 [1]).wf = true ∧ (arrivesAs (.relayFrame 0x30 [1])).isSome) :=
  ⟨⟨⟨0x99, List.replicate 240 0⟩, rfl⟩, by decide +kernel, by decide +kernel⟩
theorem test_meets_owners :
    (∃ p, performanceParts (.flushAll 0) = some p) ∧ (∃ p, managementParts (.halt 2) = some p) ∧
    (∃ p, askParts (.askStatus 2) = some p) ∧ State.reset.Awake ∧ State.reset.HearsEnsemble 0 ∧
    State.reset.HearsEnsemble 255 ∧ ¬State.reset.HearsEnsemble 1 ∧ (placed State.reset).Owns 2 ∧
    (3 : Byte) ≠ 255 ∧ (3 : Byte) ≠ (placed State.reset).liu.position :=
  ⟨⟨_, rfl⟩, ⟨_, rfl⟩, ⟨_, rfl⟩, by decide, by decide, by decide, by decide, by decide, by decide, by decide⟩
theorem test_meets_contents :
    let r : FaultRecord := ⟨.linkErrors .downstream, 0, true, 0, 1, true⟩
    let s : State := { State.reset with svu := { first := some r } }
    24 ≤ (24 : Byte).toNat ∧ State.reset.svu.first = none ∧ s.svu.first = some r ∧
    r.bytes = [7, 1, 7, 0, 0, 0, 0, 0, 0, 0, 0, 0, 1] := by decide +kernel
theorem test_meets_tables : readTable 7 = none ∧ readTable 6 = some .articulation := by decide
theorem test_meets_controls :
    (playing 7).HearsEnsemble 0 ∧ (playing 7).node.rotorEnabled ∧ (playing 7).mdc.mode = .run ∧
    (playing 7).sup.band ≠ .cut ∧ 0 < signedDiff 8 (playing 7).now ∧ signedDiff 7 (playing 7).now ≤ 0 := by
  decide +kernel
theorem test_meets_request_refusals :
    let unlocked := { playing 7 with scu := {} }
    State.reset.mdc.mode ≠ .run ∧ (unlocked.mdc.mode = .run ∧ unlocked.scu.sync = .unlocked) ∧
    ((playing 7).mdc.mode = .run ∧ (playing 7).scu.sync = .locked) ∧
    (∀ h : (127 : Byte).toNat < 128, tables.playTables.notes[(127 : Byte).toNat].enabled = false) ∧
    ¬(128 : Byte).toNat < 128 ∧ tables.playTables.notes[60].enabled = true ∧
    640 * ((0 : Byte).toNat + 1) / 256 = 2 ∧ 255 * ((0 : Byte).toNat + 1) / 256 = 0 ∧
    (∀ d : Fin 4, (3 : Byte).toNat = d.val ∨ 4 ≤ (3 : Byte).toNat → (State.reset.damperRecord d).enabled = false) := by
  decide +kernel
theorem test_meets_failing_candidates :
    let s := playing 990000
    let n : NoteEntry := { tables.playTables.notes[60] with alternate := none }
    let busy := s.setChannel 5 { busyUntil := some 999999 }
    let fails (r : RefuseReason) (x : Except RefuseReason Candidacy) : Bool :=
      match x with
      | .error q => decide (q = r)
      | .ok _ => false
    n.enabled = true ∧ n.primary = 5 ∧ fails .outOfService ({ s with tbs := {} }.chooseStriker n 48 1000000) ∧
    fails .tooEarly (s.chooseStriker n 48 (990000 + 5000000)) ∧ fails .late (s.chooseStriker n 48 990000) ∧
    fails .busy (busy.chooseStriker n 48 1000000) := by decide +kernel
theorem test_meets_candidates :
    let s := playing 990000
    let held := s.setChannel 5 { marks := { offTime := true } }
    let hot := s.setChannel 5 { busyUntil := some 994000 }
    let margin := signedDiff (1000000 - BitVec.ofNat 32 1035) s.now
    (State.reset.strikerRecord 5).enabled = false ∧ (held.channel 5).marks.any ∧ (held.channel 5).drive = none ∧
    4194304 < signedDiff (990000 + 4194305 : ShowTime) s.now ∧
    signedDiff (990000 + 4194304 : ShowTime) s.now ≤ 4194304 ∧
    (signedDiff (990019 : ShowTime) s.now < 20 ∧ signedDiff (990020 : ShowTime) s.now = 20) ∧
    (300 < 20 - signedDiff (989719 : ShowTime) s.now ∧ 20 - signedDiff (989720 : ShowTime) s.now = 300) ∧
    signedDiff (993999 : ShowTime) 994000 < 0 ∧ (hot.channel 5).busyUntil = some 994000 ∧ margin = 8965 ∧
    (∃ k, s.tryStriker 5 48 1000000 = .ok k) ∧ (∃ k, State.reset.tryStriker 5 48 1000000 = .error k) :=
  ⟨by decide, by decide +kernel, by decide +kernel, by decide, by decide, by decide, by decide, by decide,
    by decide +kernel, by decide +kernel, ⟨_, rfl⟩, ⟨_, rfl⟩⟩
theorem test_meets_accepted_play :
    let s := playing 990000
    let n := tables.playTables.notes[60]
    s.Awake ∧ s.HearsEnsemble 0 ∧ s.mdc.mode = .run ∧ s.scu.sync = .locked ∧ n.enabled = true ∧
    tables.playTables.curveWidth 2 48 * (s.acu.gain.toNat + 1) / 256 = 480 ∧
    (∃ k, (s.countGood .upstream).chooseStriker n 48 1000000 = .ok k) ∧
    s.sch.entries.length + 1 + 1 ≤ 256 ∧ 256 < full.sch.entries.length + 1 + 0 :=
  ⟨by decide, by decide +kernel, by decide, by decide, by decide +kernel, by decide +kernel, ⟨_, rfl⟩,
    by decide +kernel, by decide +kernel⟩
theorem test_meets_choke :
    let s := playing 0
    let n : NoteEntry := { choke := some 1 }
    n.choke = some 1 ∧ (s.damperRecord 1).enabled = true ∧ (State.reset.damperRecord 1).enabled = false ∧
    signedDiff (650 - 650 : ShowTime) 1 < 0 ∧ ¬signedDiff (651 - 650 : ShowTime) 1 < 0 ∧
    4194304 < signedDiff (4194305 : ShowTime) s.now ∧ ¬4194304 < signedDiff (4194304 : ShowTime) s.now := by
  decide +kernel
theorem test_meets_insertion :
    let s := { playing 998977 with sch := { entries := [strike5] } }
    let y : Entry := { strike5 with target := 0 }
    s.sch.entries.Pairwise (fun (a b : Entry) => signedDiff a.action b.action ≤ 0) ∧
    ∀ x ∈ y :: s.sch.entries, 0 ≤ signedDiff x.action s.now ∧ signedDiff x.action s.now ≤ 4194304 := by
  decide +kernel
theorem test_meets_resolution : (511 : Fin 512).val = (7 : Fin 8).val * 64 + 63 := by decide
theorem test_meets_mute :
    let s := playing 1000000
    let margin (t : ShowTime) := signedDiff (t - BitVec.ofNat 32 400) s.now
    (3 : Byte).toNat < 4 ∧ ¬(4 : Byte).toNat < 4 ∧ (s.damperRecord 3).enabled = true ∧
    s.sch.entries.length + 4 ≤ 256 ∧ 256 < full.sch.entries.length + 1 ∧
    4194304 < margin 5194705 ∧ margin 5194704 = 4194304 ∧ margin 1000420 = s.node.setupMargin ∧
    margin 1000419 < s.node.setupMargin ∧
    (s.node.setupMargin : Int) - margin 1000120 = s.node.lateTolerance ∧
    (s.node.lateTolerance : Int) < s.node.setupMargin - margin 1000119 := by decide +kernel
theorem test_meets_free_clock :
    let acquiring : State := { State.reset with scu := { sync := .acquiring, confidence := 7 } }
    State.reset.Awake ∧ State.reset.scu.sync = .unlocked ∧ acquiring.scu.sync = .acquiring ∧
    signedDiff 2 acquiring.now = 2 ∧ signedDiff 3 acquiring.now = 3 ∧ signedDiff (-2) acquiring.now = -2 ∧
    acquiring.scu.confidence + 1 = 8 := by decide
theorem test_meets_locked_clock :
    let s := { playing 100 with localTime := 8000 }
    s.Awake ∧ s.scu.sync = .locked ∧ signedDiff 164 s.now = 64 ∧ signedDiff 165 s.now = 65 ∧
    signedDiff 36 s.now = -64 ∧ s.scu.lastMark = some 0 ∧ ¬s.localTime - 0 < 16 * (s.node.markPeriod / 2) ∧
    7999 - 0 < 16 * (s.node.markPeriod / 2) ∧ s.svu.faults.length < 7 ∧
    { s.scu with confidence := 2 }.confidence ≤ 2 ∧ { s.tbs with pendingSwap := some 9 }.pendingSwap ≠ none := by
  decide +kernel
theorem test_fall_to_acquiring_takes_the_swap :
    let s : State :=
      { playing 100 with scu := { lockedAt 100 with confidence := 2 }, tbs := { tables with pendingSwap := some 900 } }
    let t := run (.mark 5000 1 0 2) s
    t.scu.sync = .acquiring ∧ t.tbs.pendingSwap = none ∧ t.tbs.playBank ≠ s.tbs.playBank := by decide +kernel
theorem test_meets_holdover_mark :
    let s : State := { playing 100 with scu := { lockedAt 100 with sync := .holdover, holdoverStart := some 0 } }
    s.scu.sync = .holdover ∧ signedDiff 164 s.now = 64 ∧ signedDiff 165 s.now = 65 := by decide +kernel
theorem test_meets_clock_steps :
    let holdover : State := { playing 100 with scu := { lockedAt 100 with sync := .holdover } }
    let acquiring : State := { playing 100 with scu := { lockedAt 100 with sync := .acquiring } }
    State.reset.Awake ∧ State.reset.scu.sync = .unlocked ∧ (1 : Int) ≠ 0 ∧ (-1 : Int) ≠ 0 ∧
    (acquiring.scu.sync = .acquiring ∧ 2 < signedDiff 103 acquiring.now ∧ signedDiff 97 acquiring.now < -2) ∧
    (holdover.scu.sync = .holdover ∧ 64 < signedDiff 165 holdover.now ∧ signedDiff 35 holdover.now < -64) := by
  decide +kernel
theorem test_meets_mark_copy :
    let m : WaitingMark := ⟨5, 1, 0, .fine, 0, true⟩
    let s (l : List ForwardItem) (d : Option Sending) : State :=
      { State.reset with liu := { forward := l, sendingDown := d }, pdu := { markCount := 63 } }
    let marks := List.replicate 4 (ForwardItem.mark m)
    let mixed (r : Bool) := [ForwardItem.mark m, .mark m, .copy (haltFrame 1) false, .copy (haltFrame 2) r]
    (s [] none).Awake ∧ (s [] sendingSome).liu.sendingDown ≠ none ∧ (s [] none).liu.forward.length < 4 ∧
    (s [] none).pdu.markCount = 63 ∧ (s [] none).pdu.outstanding = none ∧
    4 ≤ (s marks none).liu.forward.length ∧ (∀ i ∈ (s marks none).liu.forward, i.isMark = true) ∧
    (∀ r, (s (mixed r) none).liu.forward
      = [.mark m, .mark m, .copy (haltFrame 1) false] ++ .copy (haltFrame 2) r :: []) ∧
    (253 : Byte).toNat ≤ 253 ∧ ¬(254 : Byte).toNat ≤ 253 := by decide +kernel
theorem test_meets_loading :
    let s := placed State.reset
    let o := run (.loadOpen 2 5 510) s
    s.Awake ∧ s.Owns 2 ∧ 6 < (7 : Byte).toNat ∧ readTable 5 = some .curve ∧
    TableId.curve.writable s.mdc.mode = true ∧ (511 : Half).toNat < TableId.curve.count ∧
    TableId.curve.count ≤ (512 : Half).toNat ∧ TableId.striker.writable Mode.run = false ∧
    s.tbs.pointer = none ∧ o.tbs.pointer = some ⟨.curve, 510, 0⟩ ∧ o.Owns 2 ∧
    TableId.curve.itemSize = 2 ∧ 510 + 1 < TableId.curve.count ∧ 510 + 2 = TableId.curve.count ∧
    TableId.curve.count < 510 + 3 := by decide +kernel
theorem test_meets_writes :
    let s : State := { State.reset with tbs := { pendingSwap := some 5 } }
    State.reset.mdc.mode = .idle ∧ (playing 0).mdc.mode ≠ .idle ∧ s.tbs.pendingSwap ≠ none ∧
    State.reset.Awake ∧ (NodeRecord.ofBytes [0, 255, 255, 255, 2]).chainEnd = true ∧
    (NodeRecord.ofBytes []).chainEnd = false := by
  decide +kernel
/-- The corrections of stored items at the ends of their ranges (R5, R6, R162, R163, R177). -/
theorem test_items_are_corrected :
    (NodeRecord.ofBytes [255, 255, 254]).ensemble = 254 ∧ (NodeRecord.ofBytes [255, 255, 254]).group1 = none ∧
    (NodeRecord.ofBytes [255, 255, 254]).group2 = some 254 ∧ (NodeRecord.ofBytes []).filterTime = 1 ∧
    (NoteEntry.ofBytes [1, 24, 24, 8, 0x80, 4]) =
      { enabled := false, primary := 0, alternate := none, curve := 7, offset := -16, choke := none } ∧
    (NoteEntry.ofBytes [9, 23, 23, 7, 15, 3]) =
      { enabled := true, primary := 23, alternate := some 23, curve := 7, offset := 15, choke := some 3 } ∧
    curveOfBytes [8, 0] = 2047 ∧ curveOfBytes [7, 254] = 2046 ∧
    (ArticulationItem.ofBytes [0xFF, 16]) = { curve := none, offset := 15 } ∧
    (ArticulationItem.ofBytes [0xFE, 0xEF]) = { curve := some 7, offset := -16 } := by decide +kernel
theorem test_meets_bankswap :
    let s := placed (playing 7)
    s.Awake ∧ s.Owns 2 ∧ s.mdc.mode ≠ .lockedOut ∧ s.tbs.bankB.digest ≠ s.tbs.bankB.digest + 1 ∧
    signedDiff 7 s.now ≤ 0 ∧ 0 < signedDiff 8 s.now ∧ s.scu.sync = .locked ∧
    State.reset.scu.sync = .unlocked ∧ (inMode .lockedOut s).mdc.mode = .lockedOut ∧
    { tables with pendingSwap := some 7 }.pendingSwap = some 7 := by
  refine ⟨rfl, by decide, by decide, ?_, by decide, by decide, rfl, rfl, rfl, rfl⟩
  generalize (placed (playing 7)).tbs.bankB.digest = d
  intro h
  have := congrArg BitVec.toNat h
  rw [BitVec.toNat_add] at this
  have := d.isLt
  simp at *
theorem test_meets_commit :
    let s := placed State.reset
    s.Awake ∧ s.Owns 2 ∧ s.mdc.mode = .idle ∧ (inMode .lockedOut s).mdc.mode = .lockedOut ∧
    (s.countGood .upstream).presentConditions = [] ∧
    ({ s with sup := { band := .low } }.countGood .upstream).presentConditions = [.supplyLow] := by
  decide +kernel
theorem test_meets_halt_and_resume :
    let s := placed (playing 7)
    let record : FaultRecord := ⟨.clockLost, 0, false, 0, 1, false⟩
    let halted : State :=
      { inMode .safe s with
        svu := { faults := [record] }
        tbs := { tables with supervision := defaultSupervision.set 6 { reaction := .halt } } }
    s.Awake ∧ s.Owns 2 ∧ s.mdc.mode = .run ∧ (inMode .idle s).mdc.mode ≠ .run ∧
    (halted.mdc.mode = .safe ∧ ∃ r ∈ (halted.countGood .upstream).svu.faults,
      halted.effectiveClass r.pair.kind = .halt) ∧
    (∀ r ∈ ((inMode .safe s).countGood .upstream).svu.faults,
      (inMode .safe s).effectiveClass r.pair.kind ≠ .halt) := by decide +kernel
theorem test_meets_clears :
    let record : FaultRecord := ⟨.supplyLow, 0, false, 0, 1, true⟩
    let s : State := { placed State.reset with svu := { faults := [record] }, sup := { band := .low } }
    s.Awake ∧ s.Owns 2 ∧ s.svu.faults.length ≤ 8 ∧ (s.svu.faults.map FaultRecord.pair).Nodup ∧
    readPair 16 0 = none ∧ readPair 4 0 = some .supplyCut ∧ readPair 3 0 = some .supplyLow ∧
    (∀ r ∈ (s.countGood .upstream).svu.faults, r.pair ≠ .supplyCut) ∧
    (∃ r ∈ (s.countGood .upstream).svu.faults, r.pair = .supplyLow) ∧
    (s.countGood .upstream).present .supplyLow = true := by decide +kernel
/-- The subjects that name a pair, and those out of range; a kind without a subject reads none (R171, R176). -/
theorem test_pairs_are_read :
    readPair 0 23 = some (.noImpact 23) ∧ readPair 0 24 = none ∧ readPair 2 3 = none ∧
    readPair 7 1 = some (.linkErrors .downstream) ∧ readPair 7 2 = none ∧
    readPair 12 6 = some (.loadError .articulation) ∧
    readPair 12 7 = none ∧ readPair 15 9 = some .configTimeout ∧ readPair 3 255 = some .supplyLow := by decide
theorem test_meets_leak_counters :
    (State.reset.Awake ∧ State.reset.liu.errorsUp = false ∧ 56 + 8 = 64 ∧ 55 + 8 < 64) ∧
    (∃ s : State, s.liu.errorsUp = true ∧ s.liu.leakUp - 1 < 32) ∧
    (∃ s : State, s.liu.errorsDown = true ∧ 32 ≤ s.liu.leakDown - 1) :=
  ⟨by decide, ⟨{ State.reset with liu := { errorsUp := true, leakUp := 32 } }, by decide, by decide⟩,
    ⟨{ State.reset with liu := { errorsDown := true, leakDown := 33 } }, by decide, by decide⟩⟩
theorem test_meets_link :
    let busy : State := { State.reset with liu := { sendingDown := sendingSome } }
    let waiting : State :=
      { busy with liu := { busy.liu with forward := List.replicate 4 (.copy (haltFrame 1) false) } }
    let relayed : State := { State.reset with liu := { relay := List.replicate 16 (haltFrame 1) } }
    busy.liu.sendingDown ≠ none ∧ busy.liu.forward.length < 4 ∧ 4 ≤ waiting.liu.forward.length ∧
    State.reset.liu.sendingDown = none ∧ State.reset.liu.forward = [] ∧ State.reset.node.chainEnd = false ∧
    State.reset.pdu.downstreamLost = false ∧ State.reset.liu.sendingUp = none ∧
    ({ State.reset with liu := { sendingUp := some (haltFrame 1) } } : State).liu.sendingUp ≠ none ∧
    State.reset.liu.relay.length < 16 ∧ 16 ≤ relayed.liu.relay.length ∧ ([1] : List Byte).length ≠ 4 ∧
    (0x40 : Byte) ≠ 0x30 := by decide +kernel
theorem test_meets_returned_probe :
    let s : State := { State.reset with pdu := { outstanding := some ⟨4, some 0⟩, downstreamLost := true } }
    (∀ x, s.pdu.outstanding = some x → x.number ≠ 5) ∧ s.pdu.outstanding = some ⟨4, some 0⟩ ∧
    s.pdu.downstreamLost = true ∧ State.reset.pdu.downstreamLost = false :=
  ⟨by intro x h; cases h; decide, rfl, rfl, rfl⟩
theorem test_meets_boundaries :
    let m : WaitingMark := ⟨5, 1, 0, .fine, 0, true⟩
    let s (l : List ForwardItem) (b : Bool) : State :=
      { State.reset with
        liu := { forward := l, slot := some ⟨1, 2, 0⟩, relay := [haltFrame 1], answer := [haltFrame 2] }
        tbs := { node := { chainEnd := b } }, pdu := { probeDue := .afterMark } }
    let sent (j : SendingJob) : Sending := ⟨haltFrame 1, j⟩
    (s [.mark m] false).liu.forward = [.mark m] ∧ (s [.copy (haltFrame 1) true] true).node.chainEnd = true ∧
    (s [] false).pdu.probeDue = .afterMark ∧ (s [] false).liu.sendingDown = none ∧
    State.reset.pdu.probeDue ≠ .afterMark ∧ State.reset.pdu.outstanding = none ∧
    (sent .probe).job = .probe ∧ (s [] false).liu.slot = some ⟨1, 2, 0⟩ ∧
    (s [] false).liu.relay = [haltFrame 1] ∧ (s [] false).liu.turn = .relay ∧
    (s [] false).liu.answer = [haltFrame 2] := by decide +kernel
theorem test_meets_probes :
    let s : State := { State.reset with localTime := 256, pdu := { probeDue := .window 256 } }
    let later : State := { s with localTime := 257 }
    let out (n k : Nat) : State :=
      { State.reset with localTime := n, pdu := { outstanding := some ⟨7, some 0⟩, missing := k } }
    s.pdu.probeDue = .window 256 ∧ s.localTime ≤ 256 ∧ s.liu.sendingDown = none ∧ s.liu.forward = [] ∧
    s.pdu.outstanding = none ∧ s.node.chainEnd = false ∧ 256 < later.localTime ∧
    (out 4095 0).localTime < 0 + 256 * 16 ∧ 0 + 256 * 16 ≤ (out 4096 3).localTime ∧
    (out 4096 2).pdu.missing < 3 ∧ (out 4096 3).pdu.downstreamLost = false ∧ (out 4096 4).pdu.missing = 4 := by
  decide +kernel
theorem test_meets_due :
    dueNow.Awake ∧ dueNow.sch.entries = [strike5] ∧ signedDiff strike5.action dueNow.now = 0 ∧
    0 < signedDiff strike5.action 998976 ∧ signedDiff 999277 strike5.action = 300 ∧
    (dueNow.node.lateTolerance : Int) < signedDiff 999278 strike5.action := by decide +kernel
theorem test_meets_due_strike :
    let late : Entry := { strike5 with action := 998978 }
    let s : State :=
      { dueNow with sch := { entries := [strike5, late], accepted := 2 } }.setChannel 5
        { heat := 7999, busyUntil := some 998977, recoveryEnd := some 998977, window := some 998000, missRun := 2 }
    let ready := ({ s with sch := { s.sch with entries := [late] } }.after (.driveEnd 5)).after (.recoveryEnd 5)
    let r := s.strikerRecord 5
    s.Awake ∧ s.sch.entries = [strike5, late] ∧ s.mdc.mode = .run ∧ s.sup.band ≠ .cut ∧ r.enabled = true ∧
    (ready.channel 5).drive = none ∧ (ready.channel 5).marks.any = false ∧
    (ready.channel 5).recoveryEnd = none ∧ 0 ≤ signedDiff s.now 998977 ∧ (ready.channel 5).heat < 8000 ∧
    s.acu.ceiling ≠ 0 ∧ 0 < signedDiff late.action s.now ∧
    0 ≤ signedDiff ((1000000 : ShowTime) + BitVec.ofNat 32 200) s.now := by decide +kernel
theorem test_meets_dropped_strike :
    let s := (dueNow).setChannel 5 { heat := 8000, busyUntil := some 998978 }
    let quiet : State := { dueNow with acu := { ceiling := 0 } }
    (inMode .safe s).mdc.mode ≠ .run ∧
    ({ dueNow with sup := { band := .cut } } : State).sup.band = .cut ∧ signedDiff s.now 998978 < 0 ∧
    8000 ≤ (s.channel 5).heat ∧ (quiet.channel 5).heat < 8000 ∧ quiet.acu.ceiling = 0 ∧
    (quiet.channel 5).busyUntil = none ∧ (State.reset.strikerRecord 5).enabled = false := by decide +kernel
theorem test_meets_channel_times :
    let s := (driving 999313).setChannel 6 { recoveryEnd := some 999313, busyUntil := some 999314 }
    (s.channel 5).drive = some ⟨998977, 336⟩ ∧ signedDiff ((998977 : ShowTime) + BitVec.ofNat 32 336) s.now = 0 ∧
    (s.channel 7).drive = none ∧ (s.channel 6).recoveryEnd = some 999313 ∧ signedDiff 999313 s.now ≤ 0 ∧
    (s.channel 6).busyUntil = some 999314 ∧ 0 < signedDiff 999314 s.now := by decide +kernel
theorem test_meets_impacts :
    let r := mallet
    (State.reset.strikerRecord 5).sense = false ∧ r.sense = true ∧
    ((driving 1000100).channel 5).window = some 1000000 ∧ ((playing 0).channel 5).window = none ∧
    signedDiff 1000100 1000000 = (r.impactWindow / 2 : Nat) ∧ signedDiff 1000101 1000000 = 101 ∧
    signedDiff 999800 1000000 = -200 ∧ signedDiff 1000201 1000000 = 201 ∧
    signedDiff ((1000000 : ShowTime) + BitVec.ofNat 32 r.impactWindow) 1000200 = 0 ∧
    signedDiff ((1000000 : ShowTime) + BitVec.ofNat 32 r.impactWindow) 1000201 < 0 := by decide +kernel
theorem test_meets_damper_times :
    let s := (playing 650).setDamper 1 { state := .engaging, travelEnd := some 650, hold := some 651 }
    (s.damper 1).travelEnd = some 650 ∧ (s.damper 1).state = .engaging ∧ signedDiff 650 s.now ≤ 0 ∧
    (s.damper 1).hold = some 651 ∧ 0 < signedDiff 651 s.now ∧ (s.damper 0).travelEnd = none := by decide +kernel
theorem test_meets_due_damper :
    let up := damperDue 300 .release false { state := .released, coil := true }
    let down := damperDue 300 .engage true { hold := some 400 }
    up.Awake ∧ up.sch.entries = [⟨0, 0, .damper 1 .release false⟩] ∧ signedDiff 0 up.now ≤ 0 ∧
    signedDiff up.now 0 ≤ up.node.lateTolerance ∧ up.mdc.mode = .run ∧ up.sup.band ≠ .cut ∧
    (up.damperRecord 1).enabled = true ∧ (up.damper 1).state = .released ∧ (down.damper 1).state = .engaged ∧
    (down.damper 1).hold ≠ none ∧ 0 < (up.damperRecord 1).releaseTravel ∧
    (down.damper 1).state ≠ .releasing ∧ (down.damper 1).state ≠ .released ∧
    (up.damperRecord 1).engageTravel ≤ 65535 ∧ (inMode .safe up).mdc.mode ≠ .run := by decide +kernel
theorem test_meets_rotor :
    let s : State :=
      { playing 277 with
        rot := { current := 180, output := true, cycle := some ⟨277, 555⟩, position := 3, align := some 278 } }
    s.rot.cycle = some ⟨277, 555⟩ ∧ signedDiff 277 s.now ≤ 0 ∧ 0 < signedDiff 278 s.now ∧ s.rot.output = true ∧
    s.rot.align = some 278 ∧ signedDiff 278 278 ≤ 0 ∧ s.rot.current ≠ 0 ∧ s.node.indexEnabled = true ∧
    s.rot.position ≠ 0 ∧ State.reset.rot.cycle = none ∧ State.reset.rot.align = none := by decide +kernel
theorem test_meets_local_ticks :
    let s (n : Nat) (c t : Nat) : State := { playing 0 with localTime := n, rot := { current := c, target := t } }
    (s 16383 0 0).localTime < (s 16383 0 0).rot.rampNext ∧ (s 16384 0 0).rot.rampNext ≤ (s 16384 0 0).localTime ∧
    (s 16384 0 0).stc.coolingNext ≤ (s 16384 0 0).localTime ∧ (s 16384 0 50).rot.current = 0 ∧
    (s 16384 50 0).rot.current - 50 = 0 := by decide +kernel
theorem test_meets_slew :
    (slewing 3).Awake ∧ (slewing 3).slewNext = true ∧ (slewing 3).fallenEvents = [] ∧
    (slewing (-3)).slewNext = true ∧ (slewing (-3)).fallenEvents = [] ∧ (slewing 0).slewNext = false ∧
    State.fallenShow
        { slewing 2 with localTime := 32, scu := { (slewing 2).scu with now := 51, slewCount := 16 } } = [] := by
  decide +kernel
/-- An entry is due at the grain that the advance of 2 skips. -/
theorem test_meets_slew_over_an_entry :
    let s : State := { slewing 2 with sch := { entries := [⟨51, 51, .damper 1 .release false⟩] } }
    s.Awake ∧ s.slewNext = true ∧ s.fallenEvents = [] ∧
    State.fallenShow { s with localTime := 32, scu := { s.scu with now := 51, slewCount := 16 } } = [.due] := by
  decide +kernel
theorem test_meets_clock_events :
    let s (n : Nat) (x : SyncState) : State :=
      { playing 9 with
        localTime := n, scu := { lockedAt 9 with sync := x, holdoverStart := some 0 }
        mdc := { mode := .config, timer := some 3200000 }, tbs := { tables with pendingSwap := some 9 } }
    ((s 32000 .locked).scu.lastMark = some 0 ∧ 0 + 16 * (2 * (s 0 .locked).node.markPeriod) ≤ 32000) ∧
    ((s 3200000 .holdover).scu.holdoverStart = some 0 ∧ 0 + 16 * (s 0 .locked).node.holdoverLimit ≤ 3200000) ∧
    (s 0 .locked).tbs.pendingSwap = some 9 ∧ signedDiff 9 (s 0 .locked).now ≤ 0 ∧ 0 < signedDiff 10 9 ∧
    (s 3200000 .locked).mdc.timer = some 3200000 := by decide +kernel
theorem test_meets_driver_faults :
    let s : State := { run (.driverFaultInputChange 2 true) State.reset with localTime := 80 }
    s.Awake ∧ s.svu.driverInput[2] = true ∧ s.svu.driverFault[2] = false ∧
    s.svu.driverChanged[2] + 5 * 16 ≤ s.localTime ∧ ¬s.svu.driverChanged[2] + 5 * 16 ≤ 79 := by decide +kernel
theorem test_meets_supply :
    let x (level : Byte) : State := { State.reset with sup := { level := level } }
    (x 160).indicated = .normal ∧ (x 159).indicated = .low ∧ (x 120).indicated = .low ∧ (x 119).indicated = .cut ∧
    (run (.supplyLevelChange 119) State.reset).sup.candidate = some ⟨.cut, 0⟩ ∧
    0 + 16 * (100 * State.reset.node.filterTime) = 16000 := by decide +kernel
theorem test_meets_reactions :
    let s (c : ReactionClass) : State :=
      { playing 0 with tbs := { tables with supervision := Vector.replicate 16 { reaction := c } } }
    (s .warn).effectiveClass .noImpact = .warn ∧ (s .hold).effectiveClass .offTime = .hold ∧
    (s .hold).effectiveClass .driverFault = .hold ∧ (s .recover).effectiveClass .driverFault = .recover ∧
    (s .halt).effectiveClass .clockLost = .halt ∧ (s .halt).mdc.mode = .run ∧
    (inMode .idle (s .halt)).mdc.mode ≠ .run ∧ (∀ g, FaultPair.supplyLow ≠ .driverFault g) := by decide +kernel
theorem test_meets_reports :
    let r : FaultRecord := ⟨.scheduleFull, 0, false, 0, 65535, false⟩
    let s : State := { State.reset with svu := { faults := List.replicate 8 r } }
    (∃ x ∈ s.svu.faults, x.pair = .scheduleFull) ∧ 8 ≤ s.svu.faults.length ∧
    (¬∃ x ∈ s.svu.faults, x.pair = .clockLost) ∧ State.reset.svu.faults.length < 8 := by decide +kernel

/-! ### A state that has the laws, and whose step answers -/

/-- A playing node with one strike pending, a drive running and a command waiting. -/
def lawful : State :=
  { (driving 998978).setChannel 5
      { output := true, drive := some ⟨998977, 336⟩, heat := 5160, trim := -12, busyUntil := some 1002477
        window := some 1000000 } with
    sch := { entries := [{ strike5 with action := 1002477 }], accepted := 2, started := 1 }
    pending := [.flushAll 0] }

theorem test_lawful_step_answers : ∃ t, step lawful = .next t := ⟨_, rfl⟩
theorem test_lawful_output : lawful.OutputLaw :=
  ⟨fun h => absurd (by decide : lawful.MayDrive) h, by decide +kernel, by decide +kernel⟩
theorem test_lawful_schedule : lawful.ScheduleLaw :=
  ⟨by decide, by decide +kernel, by decide +kernel, fun h => absurd rfl h, by decide⟩
theorem test_lawful_conserves : lawful.Conserves := by decide +kernel
theorem test_lawful_queues : lawful.QueueLaw :=
  ⟨by decide, by decide, by decide, by decide, by decide, by decide⟩
theorem test_lawful_strikers : lawful.StrikerLaw := by
  refine ⟨fun n => ⟨?_, ?_, ?_, ?_⟩, by decide +kernel⟩
  · revert n; decide +kernel
  · revert n; decide +kernel
  · revert n; decide +kernel
  · intro d h
    have all : ∀ n : Fin 24, (lawful.channel n).drive = none ∨
        (lawful.channel n).drive = some ⟨998977, 336⟩ := by decide +kernel
    have wide : ∀ n : Fin 24, 336 ≤ (lawful.strikerRecord n).wMax := by decide +kernel
    rcases all n with e | e <;> rw [e] at h <;> cases h
    exact ⟨wide n, by decide, by decide⟩
theorem test_lawful_clock : lawful.ClockLaw :=
  ⟨by decide, by decide, by decide, by decide, by decide⟩
theorem test_lawful_pointer : lawful.PointerLaw := ⟨fun p h => (nomatch h), by decide⟩
theorem test_lawful_lamp : lawful.LampLaw := by decide +kernel
theorem test_lawful_rotor : lawful.RotorLaw :=
  ⟨by decide, by decide, by decide, by decide, by decide, by decide⟩
theorem test_lawful_stored : lawful.StoredLaw := by
  refine ⟨by decide +kernel, by decide +kernel, by decide +kernel, by decide +kernel, ?_, ?_,
    by decide +kernel⟩
  · intro i
    have empty : NoteEntry.ofBytes (NoteEntry.bytes {}) = {} := by decide +kernel
    have full : NoteEntry.ofBytes note60.bytes = note60 := by decide +kernel
    refine ⟨?_, ?_⟩
    · show NoteEntry.ofBytes ((Vector.replicate 128 ({} : NoteEntry)).set 60 note60)[i].bytes
        = ((Vector.replicate 128 ({} : NoteEntry)).set 60 note60)[i]
      rw [Fin.getElem_fin, Vector.getElem_set]
      split
      · exact full
      · rw [Vector.getElem_replicate]; exact empty
    · show NoteEntry.ofBytes (Vector.replicate 128 ({} : NoteEntry))[i].bytes
        = (Vector.replicate 128 ({} : NoteEntry))[i]
      rw [Fin.getElem_fin, Vector.getElem_replicate]
      exact empty
  · intro i
    refine ⟨?_, ?_⟩
    · show curveOfBytes (nat2 (Vector.replicate 512 640)[i]) = (Vector.replicate 512 640)[i]
      rw [Fin.getElem_fin, Vector.getElem_replicate]
      decide
    · show curveOfBytes (nat2 (Vector.replicate 512 16)[i]) = (Vector.replicate 512 16)[i]
      rw [Fin.getElem_fin, Vector.getElem_replicate]
      decide
theorem test_lawful_windows : lawful.WindowLaw := by
  refine ⟨List.pairwise_singleton _ _, ?_⟩
  intro x hx n w e h t ht
  rw [show lawful.sch.entries = [{ strike5 with action := 1002477 }] from rfl, List.mem_singleton] at hx
  subst hx
  cases h
  rw [show (lawful.channel 5).busyUntil = some 1002477 by decide +kernel] at ht
  cases ht
  decide

end Sys2Proof.Tests
end

section
/-! SUPPORT. The pending strikes as the schedule's two laws read them: which striker an entry is for, how far two
entries of one striker stand apart (R42), and how many accepted strikes no counter accounts for (R53). -/
namespace Sys2Proof.Machine

/-! ### The striker of an entry -/

/-- The striker of a strike entry; a damper entry has none. -/
def Entry.striker (e : Entry) : Option (Fin 24) :=
  match e.work with
  | .strike n _ _ => some n
  | .damper .. => none

theorem Entry.striker_eq_some (e : Entry) (n : Fin 24) :
    e.striker = some n ↔ ∃ w x, e.work = .strike n w x := by
  unfold Entry.striker
  split
  · rename_i m w x h
    rw [h, Option.some.injEq]
    constructor
    · rintro rfl; exact ⟨w, x, rfl⟩
    · rintro ⟨_, _, e⟩; cases e; rfl
  · rename_i h
    simp [h]

/-! ### Windows of one striker -/

/-- The reserved windows of the two entries do not overlap if they are for one striker (R42). -/
def Apart (r : Fin 24 → StrikerRecord) (a b : Entry) : Prop :=
  ∀ n, a.striker = some n → b.striker = some n →
    windowsOverlap ((r n).wMax + (r n).recovery) a.action b.action = false

/-- If the two entries are for one striker, the second does not start before the first one's reserved window ends:
what the second needs of the first when that drives (R42, Drive start). -/
def Follows (r : Fin 24 → StrikerRecord) (a b : Entry) : Prop :=
  ∀ n, a.striker = some n → b.striker = some n → before b.action ((r n).windowEnd a.action) = false

theorem windowsOverlap_comm (len : Nat) (a c : ShowTime) :
    windowsOverlap len a c = windowsOverlap len c a := Bool.and_right_comm _ _ _

theorem Apart.symm {r : Fin 24 → StrikerRecord} {a b : Entry} (h : Apart r a b) : Apart r b a :=
  fun n hb ha => (windowsOverlap_comm _ _ _).trans (h n ha hb)

theorem Follows.apart {r : Fin 24 → StrikerRecord} {a b : Entry} (h : Follows r a b) : Apart r a b := by
  intro n ha hb
  have hend := h n ha hb
  unfold StrikerRecord.windowEnd at hend
  simp [windowsOverlap, hend]

/-- The action time lies within the horizon from now (R40). -/
abbrev InSpan (now t : ShowTime) : Prop := 0 ≤ signedDiff t now ∧ signedDiff t now ≤ Config.horizon

/-- Times within one span compare as their distances from now do (R40). -/
theorem signedDiff_inSpan {now a b : ShowTime} (ha : InSpan now a) (hb : InSpan now b) :
    signedDiff a b = signedDiff a now - signedDiff b now := by
  simp only [InSpan, Config.horizon] at ha hb
  exact signedDiff_eq_sub a b now (by omega) (by omega)

/-- The end of a window that begins within the span lies its length further from now. -/
theorem signedDiff_plusGrains_inSpan {now a : ShowTime} (ha : InSpan now a) {len : Nat} (h : len ≤ 67582) :
    signedDiff (plusGrains a len) now = signedDiff a now + len := by
  simp only [InSpan, Config.horizon] at ha
  have hback : signedDiff now a = -signedDiff a now := by
    have := signedDiff_eq_sub now a now (by simp; omega) (by simp; omega)
    simpa using this
  have hlen : signedDiff (plusGrains a len) a = len := signedDiff_plusGrains a len (by omega)
  rw [signedDiff_eq_sub (plusGrains a len) now a (by omega) (by omega), hlen, hback]
  omega

/-- Of two entries in order whose windows do not overlap, the second starts where the first one's window ends or
later. -/
theorem Apart.follows {r : Fin 24 → StrikerRecord} (lengths : ∀ n, (r n).wMax + (r n).recovery ≤ 67582)
    {now : ShowTime} {a b : Entry} (ha : InSpan now a.action) (hb : InSpan now b.action)
    (order : signedDiff a.action b.action ≤ 0) (h : Apart r a b) : Follows r a b := by
  intro n hna hnb
  have hlen := lengths n
  have hout := h n hna hnb
  have hab := signedDiff_inSpan ha hb
  have ea := signedDiff_plusGrains_inSpan ha hlen
  have eb := signedDiff_plusGrains_inSpan hb hlen
  unfold StrikerRecord.windowEnd
  generalize (r n).wMax + (r n).recovery = len at *
  simp only [InSpan, Config.horizon] at ha hb
  have dab := signedDiff_eq_sub a.action (plusGrains b.action len) now (by omega) (by omega)
  have dba := signedDiff_eq_sub b.action (plusGrains a.action len) now (by omega) (by omega)
  simp only [windowsOverlap, before, Bool.and_eq_false_iff, decide_eq_false_iff_not,
    bne_eq_false_iff_eq] at hout ⊢
  omega

/-- A schedule in order, within its span, with no overlapping windows: every strike follows those before it. -/
theorem pairwise_follows {r : Fin 24 → StrikerRecord} (lengths : ∀ n, (r n).wMax + (r n).recovery ≤ 67582)
    {now : ShowTime} {l : List Entry} (span : ∀ e ∈ l, InSpan now e.action)
    (order : l.Pairwise fun a b => signedDiff a.action b.action ≤ 0) (h : l.Pairwise (Apart r)) :
    l.Pairwise (Follows r) :=
  (order.and h).imp_of_mem fun ha hb hab => hab.2.follows lengths (span _ ha) (span _ hb) hab.1

/-! ### Insertion -/

/-- Insertion keeps the order of entries that lie in one span (R39). -/
theorem insertEntry_order {now : ShowTime} {e : Entry} (he : InSpan now e.action) {l : List Entry}
    (span : ∀ x ∈ l, InSpan now x.action) (order : l.Pairwise fun a b => signedDiff a.action b.action ≤ 0) :
    (insertEntry e l).Pairwise fun a b => signedDiff a.action b.action ≤ 0 := by
  induction l with
  | nil => exact List.pairwise_singleton _ _
  | cons x xs ih =>
    have hx := span x List.mem_cons_self
    have hxs : ∀ y ∈ xs, InSpan now y.action := fun y hy => span y (List.mem_cons_of_mem _ hy)
    obtain ⟨horder, hrest⟩ := List.pairwise_cons.1 order
    unfold insertEntry
    split
    · rename_i hle
      refine List.pairwise_cons.2 ⟨fun y hy => ?_, ih hxs hrest⟩
      rcases (mem_insertEntry e y xs).1 hy with rfl | hy
      · exact (reached_iff _ _).1 hle
      · exact horder y hy
    · rename_i hgt
      refine List.pairwise_cons.2 ⟨fun y hy => ?_, order⟩
      rw [reached_iff, signedDiff_inSpan hx he] at hgt
      rw [signedDiff_inSpan he (span y hy)]
      rcases List.mem_cons.1 hy with rfl | hy
      · omega
      · have := horder y hy
        rw [signedDiff_inSpan hx (hxs y hy)] at this
        omega

/-- A damper entry follows and is followed by every entry, wherever it is inserted. -/
theorem insertEntry_damper_follows {r : Fin 24 → StrikerRecord} {e : Entry} (he : e.striker = none)
    {l : List Entry} (h : l.Pairwise (Follows r)) : (insertEntry e l).Pairwise (Follows r) := by
  have follows : ∀ x, Follows r x e := fun x n _ hn => by simp [he] at hn
  have followed : ∀ x, Follows r e x := fun x n hn _ => by simp [he] at hn
  induction l with
  | nil => exact List.pairwise_singleton _ _
  | cons x xs ih =>
    obtain ⟨hx, hxs⟩ := List.pairwise_cons.1 h
    unfold insertEntry
    split
    · refine List.pairwise_cons.2 ⟨fun y hy => ?_, ih hxs⟩
      rcases (mem_insertEntry e y xs).1 hy with rfl | hy
      · exact follows x
      · exact hx y hy
    · exact List.pairwise_cons.2 ⟨fun y _ => followed y, h⟩

/-! ### Spacing (R42) -/

/-- Every pending strike of a striker follows those before it, and starts at its busy-until or later: the law of the
windows (R42) in the form that hand-overs keep, whatever the clock does. -/
structure State.Spaced (s : State) : Prop where
  follows : s.sch.entries.Pairwise (Follows s.strikerRecord)
  free : ∀ x ∈ s.sch.entries, ∀ n, x.striker = some n →
    ∀ t, (s.channel n).busyUntil = some t → before x.action t = false

theorem State.Spaced.windowLaw {s : State} (h : s.Spaced) : s.WindowLaw where
  apart := h.follows.imp fun hab n v e w f ha hb =>
    hab.apart n ((Entry.striker_eq_some _ _).2 ⟨v, e, ha⟩) ((Entry.striker_eq_some _ _).2 ⟨w, f, hb⟩)
  free x hx n w e hw := h.free x hx n ((Entry.striker_eq_some _ _).2 ⟨w, e, hw⟩)

theorem State.Spaced.of_empty {s : State} (h : s.sch.entries = []) : s.Spaced :=
  ⟨by simp [h], by simp [h]⟩

/-- Fewer entries, the same records, and busy-untils that stood before or have lapsed leave the strikes spaced. -/
theorem State.Spaced.thinned {s t : State} (h : s.Spaced) (entries : t.sch.entries.Sublist s.sch.entries)
    (records : t.tbs.strikers = s.tbs.strikers)
    (busy : ∀ n, (t.channel n).busyUntil = none ∨ (t.channel n).busyUntil = (s.channel n).busyUntil) :
    t.Spaced where
  follows := by
    have hr : t.strikerRecord = s.strikerRecord := by funext n; simp only [State.strikerRecord, records]
    rw [hr]
    exact h.follows.sublist entries
  free x hx n hn u hu := by
    rcases busy n with e | e <;> rw [e] at hu
    · cases hu
    · exact h.free x (entries.subset hx) n hn u hu

/-! ### The account of the accepted strikes (R53) -/

/-- The accepted strikes that are neither pending nor counted as started, dropped at due or flushed. -/
def Sch.unaccounted (q : Sch) : Counter :=
  q.accepted - (asCount (strikeCount q.entries) + q.started + q.dropped.total + q.flushed)

theorem State.conserves_iff (s : State) : s.Conserves ↔ s.sch.unaccounted = 0 := by
  unfold State.Conserves Sch.unaccounted
  exact sub_eq_zero.symm

theorem asCount_add (m n : Nat) : asCount (m + n) = asCount m + asCount n := BitVec.ofNat_add m n

theorem strikeCount_cons (e : Entry) (l : List Entry) :
    strikeCount (e :: l) = strikeCount l + strikeCount [e] := by
  simp [strikeCount, List.countP_cons]

@[simp] theorem Sch.insertAll_unaccounted (es : List Entry) (q : Sch) :
    (q.insertAll es).unaccounted = q.unaccounted := by
  unfold Sch.unaccounted
  rw [insertAll_strikes, asCount_add]
  simp only [Sch.insertAll]
  ring

@[simp] theorem Sch.flush_unaccounted (p : Entry → Bool) (q : Sch) :
    (q.flush p).unaccounted = q.unaccounted := by
  unfold Sch.unaccounted
  rw [← flush_strikes p q, asCount_add]
  simp only [Sch.flush]
  ring

@[simp] theorem Sch.clearStatistics_unaccounted (q : Sch) : q.clearStatistics.unaccounted = 0 := by
  simp [Sch.unaccounted, Sch.clearStatistics, DropCounters.total]

/-- The entry at the head, once removed, is unaccounted for if it is a strike. -/
theorem Sch.unaccounted_behead {q : Sch} {e : Entry} {rest : List Entry} (h : q.entries = e :: rest) :
    ({ q with entries := rest } : Sch).unaccounted = q.unaccounted + asCount (strikeCount [e]) := by
  unfold Sch.unaccounted
  rw [h, strikeCount_cons, asCount_add]
  ring

theorem DropCounters.total_add (r : DropReason) (c : DropCounters) : (c.add r).total = c.total + 1 := by
  cases r <;> simp only [DropCounters.add, DropCounters.total] <;> ring

end Sys2Proof.Machine
end

section
/-! SUPPORT. What the blocks' operations do to the pending strikes, one lemma an operation: all of them leave spaced
strikes spaced and the account as it was, but for an acceptance, the write of a striker record, CLEAR statistics and
the end of a reset. -/
namespace Sys2Proof.Machine

/-- From s to t the strikes stay spaced (R42) and none goes out of the account (R53). -/
structure ScheduleKept (s t : State) : Prop where
  spaced : s.Spaced → t.Spaced
  account : t.sch.unaccounted = s.sch.unaccounted

namespace ScheduleKept

variable {s t u : State}

theorem refl (s : State) : ScheduleKept s s := ⟨id, rfl⟩

theorem trans (h : ScheduleKept s t) (h' : ScheduleKept t u) : ScheduleKept s u :=
  ⟨h'.spaced ∘ h.spaced, h'.account.trans h.account⟩

theorem ite {p : Prop} [Decidable p] (h : ScheduleKept s t) (h' : ScheduleKept s u) :
    ScheduleKept s (if p then t else u) := by
  split
  · exact h
  · exact h'

/-! ### Updates of the state -/

theorem thinned (h : ScheduleKept s t) (entries : u.sch.entries.Sublist t.sch.entries)
    (account : u.sch.unaccounted = t.sch.unaccounted) (records : u.tbs.strikers = t.tbs.strikers)
    (busy : ∀ n, (u.channel n).busyUntil = none ∨ (u.channel n).busyUntil = (t.channel n).busyUntil) :
    ScheduleKept s u :=
  h.trans ⟨fun hs => hs.thinned entries records busy, account⟩

/-- An update of the channels that moves no busy-until. -/
theorem channels (h : ScheduleKept s t) (sch : u.sch = t.sch) (records : u.tbs.strikers = t.tbs.strikers)
    (busy : ∀ n, (u.channel n).busyUntil = none ∨ (u.channel n).busyUntil = (t.channel n).busyUntil) :
    ScheduleKept s u :=
  h.thinned (by rw [sch]) (by rw [sch]) records busy

/-- An update of other parts than the schedule, the channels and the striker records. -/
theorem elsewhere (h : ScheduleKept s t) (sch : u.sch = t.sch := by simp)
    (records : u.tbs.strikers = t.tbs.strikers := by simp) (stc : u.stc = t.stc := by simp) : ScheduleKept s u :=
  h.channels sch records fun n => .inr (by simp only [State.channel, stc])

theorem onScu (h : ScheduleKept s t) (f : Scu → Scu) : ScheduleKept s (t.onScu f) := h.elsewhere rfl rfl rfl
theorem onPdu (h : ScheduleKept s t) (f : Pdu → Pdu) : ScheduleKept s (t.onPdu f) := h.elsewhere rfl rfl rfl
theorem onLiu (h : ScheduleKept s t) (f : Liu → Liu) : ScheduleKept s (t.onLiu f) := h.elsewhere rfl rfl rfl
theorem onAcu (h : ScheduleKept s t) (f : Acu → Acu) : ScheduleKept s (t.onAcu f) := h.elsewhere rfl rfl rfl
theorem onDmc (h : ScheduleKept s t) (f : Dmc → Dmc) : ScheduleKept s (t.onDmc f) := h.elsewhere rfl rfl rfl
theorem onRot (h : ScheduleKept s t) (f : Rot → Rot) : ScheduleKept s (t.onRot f) := h.elsewhere rfl rfl rfl
theorem onSup (h : ScheduleKept s t) (f : Sup → Sup) : ScheduleKept s (t.onSup f) := h.elsewhere rfl rfl rfl
theorem onSvu (h : ScheduleKept s t) (f : Svu → Svu) : ScheduleKept s (t.onSvu f) := h.elsewhere rfl rfl rfl
theorem onMdc (h : ScheduleKept s t) (f : Mdc → Mdc) : ScheduleKept s (t.onMdc f) := h.elsewhere rfl rfl rfl

theorem onTbs (h : ScheduleKept s t) (f : Tbs → Tbs) (records : (f t.tbs).strikers = t.tbs.strikers) :
    ScheduleKept s (t.onTbs f) :=
  h.elsewhere rfl records rfl

/-- An update of the schedule's counters of dampers. -/
theorem damperCounts (h : ScheduleKept s t) (f : Sch → Sch) (entries : (f t.sch).entries = t.sch.entries)
    (account : (f t.sch).unaccounted = t.sch.unaccounted) : ScheduleKept s (t.onSch f) :=
  h.thinned (entries ▸ List.Sublist.refl _) account rfl fun _ => .inr rfl

theorem setChannel (h : ScheduleKept s t) (n : Fin 24) (c : Channel)
    (busy : c.busyUntil = none ∨ c.busyUntil = (t.channel n).busyUntil) : ScheduleKept s (t.setChannel n c) := by
  refine h.channels rfl rfl fun m => ?_
  by_cases e : m = n
  · subst e; simpa using busy
  · rw [State.setChannel_channel_other e]; exact .inr rfl

theorem mapChannels (h : ScheduleKept s t) (f : Fin 24 → Channel → Channel)
    (busy : ∀ n c, (f n c).busyUntil = none ∨ (f n c).busyUntil = c.busyUntil) :
    ScheduleKept s (t.mapChannels f) :=
  h.channels rfl rfl fun n => by simpa using busy n (t.channel n)

/-- An update of the striker block that leaves its channels as they are. -/
theorem onStc (h : ScheduleKept s t) (f : Stc → Stc) (kept : (f t.stc).channels = t.stc.channels) :
    ScheduleKept s (t.onStc f) :=
  h.channels rfl rfl fun n => .inr (by rw [State.onStc_channel, kept]; rfl)

/-- An operation folded over a list, if each use of it keeps the schedule. -/
theorem foldl {α : Type} {f : State → α → State} (kept : ∀ t a, ScheduleKept s t → ScheduleKept s (f t a))
    (l : List α) (h : ScheduleKept s t) : ScheduleKept s (l.foldl f t) := by
  induction l generalizing t with
  | nil => exact h
  | cons a l ih => exact ih (kept t a h)

end ScheduleKept

/-! ### Busy-until of one channel (R63) -/

@[simp] theorem Channel.truncate_busyUntil (now : ShowTime) (r : StrikerRecord) (c : Channel) :
    (c.truncate now r).busyUntil = c.busyUntil := by
  unfold Channel.truncate; split <;> rfl

@[simp] theorem Channel.endDrive_busyUntil (r : StrikerRecord) (c : Channel) :
    (c.endDrive r).busyUntil = c.busyUntil := by
  unfold Channel.endDrive; split <;> rfl

@[simp] theorem Channel.holdDriver_busyUntil (now : ShowTime) (r : StrikerRecord) (c : Channel) :
    (c.holdDriver now r).busyUntil = c.busyUntil := by
  unfold Channel.holdDriver; split <;> simp

@[simp] theorem Channel.suspend_busyUntil (now : ShowTime) (r : StrikerRecord) (c : Channel) :
    (c.suspend now r).busyUntil = c.busyUntil := by
  unfold Channel.suspend; split <;> simp

/-- What is left of a busy-until is nothing or the busy-until itself. -/
theorem lapsing_eq_none_or (now : ShowTime) (b : Option ShowTime) : lapsing now b = none ∨ lapsing now b = b := by
  cases h : lapsing now b with
  | none => exact .inl rfl
  | some t => exact .inr ((lapsing_eq_some now t b).1 h).1.symm

theorem Channel.moveBy_busyUntil (k : Int) (now : ShowTime) (c : Channel) :
    (c.moveBy k now).busyUntil = none ∨ (c.moveBy k now).busyUntil = c.busyUntil := by
  show lapsing _ (lapsing now c.busyUntil) = none ∨ lapsing _ (lapsing now c.busyUntil) = c.busyUntil
  rcases lapsing_eq_none_or (shiftBy k now) (lapsing now c.busyUntil) with h | h
  · exact .inl h
  · rw [h]; exact lapsing_eq_none_or now c.busyUntil

namespace ScheduleKept

variable {s t : State}

/-! ### Channels, schedule, dampers -/

theorem truncateAll (h : ScheduleKept s t) : ScheduleKept s t.truncateAll :=
  h.mapChannels _ fun n c => .inr (c.truncate_busyUntil t.now (t.strikerRecord n))

theorem takeDriveEnd (h : ScheduleKept s t) (n : Fin 24) : ScheduleKept s (t.takeDriveEnd n) := by
  unfold State.takeDriveEnd
  split
  · exact h.setChannel n _ (.inr (Channel.endDrive_busyUntil _ _))
  · exact h

theorem takeRecoveryEnd (h : ScheduleKept s t) (n : Fin 24) : ScheduleKept s (t.takeRecoveryEnd n) := by
  unfold State.takeRecoveryEnd
  split
  · exact h.setChannel n _ (.inr rfl)
  · exact h

theorem takeBusyLapse (h : ScheduleKept s t) (n : Fin 24) : ScheduleKept s (t.takeBusyLapse n) := by
  unfold State.takeBusyLapse
  split
  · exact h.setChannel n _ (.inl rfl)
  · exact h

theorem takeCoolingTick (h : ScheduleKept s t) : ScheduleKept s t.takeCoolingTick := by
  unfold State.takeCoolingTick
  split
  · refine (h.mapChannels _ ?_).onStc _ rfl
    exact fun _ _ => .inr rfl
  · exact h

theorem flush (h : ScheduleKept s t) (p : Entry → Bool) : ScheduleKept s (t.onSch (Sch.flush p)) :=
  h.thinned List.filter_sublist (Sch.flush_unaccounted p t.sch) rfl fun _ => .inr rfl

theorem flushSchedule (h : ScheduleKept s t) : ScheduleKept s t.flushSchedule := h.flush _

theorem dropDueDampers (h : ScheduleKept s t) : ScheduleKept s t.dropDueDampers := by
  refine h.thinned List.filter_sublist ?_ rfl fun _ => .inr rfl
  unfold Sch.unaccounted
  rw [dropDueDampers_strikes]
  rfl

theorem takeTravelEnd (h : ScheduleKept s t) (d : Fin 4) : ScheduleKept s (t.takeTravelEnd d) := by
  have arrived : ∀ v, ScheduleKept s (t.setDamper d v) := fun v => h.onDmc _
  unfold State.takeTravelEnd
  split
  · exact h
  · split
    · dsimp only
      split
      · exact (arrived _).damperCounts _ rfl rfl
      · exact arrived _
    · exact h

theorem handDamper (h : ScheduleKept s t) (d : Fin 4) (a : DamperAction) (choke : Bool) :
    ScheduleKept s (t.handDamper d a choke) := by
  have handled : ∀ v, ScheduleKept s (t.setDamper d v) := fun v => h.onDmc _
  unfold State.handDamper
  split
  · exact h.damperCounts _ rfl rfl
  · dsimp only
    split
    · exact (handled _).damperCounts _ rfl rfl
    · exact (handled _).takeTravelEnd d

/-! ### Resets and the downstream transmitter -/

theorem beginReset (h : ScheduleKept s t) (c : ResetCause) (e : Option Nat) : ScheduleKept s (t.beginReset c e) :=
  (h.mapChannels (fun _ c => { c with output := false, drive := none }) fun _ _ => .inr rfl).elsewhere rfl rfl rfl

theorem handRestart (h : ScheduleKept s t) : ScheduleKept s t.handRestart := h.beginReset _ _

theorem discardCopy (h : ScheduleKept s t) (i : ForwardItem) : ScheduleKept s (t.discardCopy i) := by
  have counted : ScheduleKept s (t.onCounters fun c => { c with forwardDiscards := c.forwardDiscards + 1 }) :=
    h.onLiu _
  unfold State.discardCopy
  split
  · exact counted.onPdu _
  · exact counted
  · exact counted.handRestart
  · exact counted

theorem startForward (h : ScheduleKept s t) (n : Nat) : ScheduleKept s (t.startForward n) := by
  induction n generalizing t with
  | zero => exact h
  | succ n ih =>
    unfold State.startForward
    split
    · exact h
    · split
      · exact h
      · rename_i i rest _
        have left : ScheduleKept s (t.onLiu fun l => { l with forward := rest }) := h.onLiu _
        dsimp only
        split
        · exact ih (left.discardCopy i)
        · exact left.onLiu _

theorem kickForward (h : ScheduleKept s t) : ScheduleKept s t.kickForward := h.startForward _

theorem forwardMark (h : ScheduleKept s t) (m : WaitingMark) : ScheduleKept s (t.forwardMark m) := by
  unfold State.forwardMark
  split
  · exact (h.onLiu _).kickForward
  · split
    · exact h.discardCopy _
    · exact ((h.onLiu _).discardCopy _).kickForward

theorem forwardCopy (h : ScheduleKept s t) (f : Frame) (r : Bool) : ScheduleKept s (t.forwardCopy f r) := by
  unfold State.forwardCopy
  split
  · exact (h.onLiu _).kickForward
  · exact h.discardCopy _

theorem endSending (h : ScheduleKept s t) (j : SendingJob) : ScheduleKept s (t.endSending j) := by
  have ended : ScheduleKept s (t.onLiu fun l => { l with sendingDown := none }) := h.onLiu _
  unfold State.endSending
  split
  · dsimp only
    split
    · exact ended.onPdu _
    · exact ended
  · exact ended.onPdu _
  · exact ended.handRestart
  · exact ended

theorem takeDownBoundary (h : ScheduleKept s t) : ScheduleKept s t.takeDownBoundary := by
  unfold State.takeDownBoundary
  split
  · exact h.kickForward
  · exact (h.endSending _).kickForward

/-! ### The mode, marks and reports -/

theorem setMode (h : ScheduleKept s t) (m : Mode) : ScheduleKept s (t.setMode m) :=
  h.elsewhere (records := by simp [State.setMode])

theorem stopActuators (h : ScheduleKept s t) : ScheduleKept s t.stopActuators :=
  (h.truncateAll.onDmc _).onRot _

theorem enterSafe (h : ScheduleKept s t) : ScheduleKept s t.enterSafe :=
  h.stopActuators.dropDueDampers.flushSchedule.setMode .safe

theorem requestSafe (h : ScheduleKept s t) : ScheduleKept s t.requestSafe := by
  unfold State.requestSafe
  split
  · exact h.enterSafe
  · exact h

theorem holdPair (h : ScheduleKept s t) (p : FaultPair) : ScheduleKept s (t.holdPair p) := by
  unfold State.holdPair
  split
  · exact h.setChannel _ _ (.inr rfl)
  · exact h.setChannel _ _ (.inr rfl)
  · refine h.mapChannels _ fun n c => .inr ?_
    split <;> simp
  all_goals exact h

theorem suspendGroup (h : ScheduleKept s t) (p : FaultPair) : ScheduleKept s (t.suspendGroup p) := by
  unfold State.suspendGroup
  split
  · refine h.mapChannels _ fun n c => .inr ?_
    split <;> simp
  all_goals exact h

theorem unsuspendGroup (h : ScheduleKept s t) (g : Fin 3) : ScheduleKept s (t.unsuspendGroup g) := by
  refine h.mapChannels _ fun n c => .inr ?_
  split <;> rfl

theorem releasePair (h : ScheduleKept s t) (p : FaultPair) : ScheduleKept s (t.releasePair p) := by
  refine h.mapChannels _ fun n c => .inr ?_
  split
  case h_4 => rfl
  all_goals split <;> rfl

theorem releaseRemoved (h : ScheduleKept s t) (p : FaultPair) : ScheduleKept s (t.releaseRemoved p) := by
  unfold State.releaseRemoved
  split
  · exact h
  · exact h.releasePair p

theorem releaseAll (h : ScheduleKept s t) : ScheduleKept s t.releaseAll :=
  h.mapChannels _ fun _ _ => .inr rfl

theorem react (h : ScheduleKept s t) (p : FaultPair) : ScheduleKept s (t.react p) := by
  unfold State.react
  split
  · exact h
  · exact h.holdPair p
  · exact h.suspendGroup p
  · exact h.requestSafe

theorem report (h : ScheduleKept s t) (p : FaultPair) : ScheduleKept s (t.report p) :=
  react h.elsewhere p

theorem reportEnd (h : ScheduleKept s t) (p : FaultPair) : ScheduleKept s (t.reportEnd p) := by
  have ended : ScheduleKept s (t.deactivate p) := h.onSvu _
  unfold State.reportEnd
  split
  · exact ended.unsuspendGroup _
  all_goals exact ended

theorem setFaults (h : ScheduleKept s t) (l : List FaultRecord) : ScheduleKept s (t.setFaults l) :=
  h.elsewhere

theorem readd (h : ScheduleKept s t) (ps : List FaultPair) : ScheduleKept s (t.readd ps) :=
  foldl (fun _ p h => h.report p) ps h

theorem clearPair (h : ScheduleKept s t) (p : FaultPair) : ScheduleKept s (t.clearPair p) := by
  have removed : ∀ l, ScheduleKept s ((t.setFaults l).releaseRemoved p) :=
    fun l => (h.setFaults l).releaseRemoved p
  unfold State.clearPair
  split
  · dsimp only
    split
    · exact (removed _).report p
    · exact removed _
  · exact h

theorem clearAll (h : ScheduleKept s t) : ScheduleKept s t.clearAll :=
  have emptied : ScheduleKept s ((t.setFaults []).onSvu fun v => { v with overflow := 0 }) :=
    (h.setFaults []).onSvu _
  emptied.releaseAll.readd _

theorem clearAfterCut (h : ScheduleKept s t) : ScheduleKept s t.clearAfterCut :=
  (foldl (fun _ g h => h.releaseRemoved (.driverFault g)) allGroups (h.setFaults _)).readd _

/-! ### Impacts -/

theorem closeAsMiss (h : ScheduleKept s t) (n : Fin 24) : ScheduleKept s (t.closeAsMiss n) := by
  unfold State.closeAsMiss
  dsimp only
  split
  · refine (h.setChannel n _ ?_).report _
    exact .inr rfl
  · exact h.setChannel n _ (.inr rfl)

theorem takeWindowEnd (h : ScheduleKept s t) (n : Fin 24) : ScheduleKept s (t.takeWindowEnd n) := by
  unfold State.takeWindowEnd
  split
  · exact h.closeAsMiss n
  · exact h

theorem outlierImpact (h : ScheduleKept s t) (n : Fin 24) : ScheduleKept s (t.outlierImpact n) := by
  unfold State.outlierImpact
  dsimp only
  split
  · refine (h.setChannel n _ ?_).report _
    exact .inr rfl
  · exact h.setChannel n _ (.inr rfl)

theorem takeImpact (h : ScheduleKept s t) (n : Fin 24) : ScheduleKept s (t.takeImpact n) := by
  have stray : ScheduleKept s t.strayImpact := h.onStc _ rfl
  unfold State.takeImpact
  dsimp only
  split
  · split
    · exact stray
    · split
      · exact h.setChannel n _ (.inr rfl)
      · split
        · exact h.outlierImpact n
        · exact stray
  · exact h

/-! ### Supply and driver faults -/

theorem evaluateSupply (h : ScheduleKept s t) : ScheduleKept s t.evaluateSupply :=
  h.elsewhere

theorem enterCut (h : ScheduleKept s t) : ScheduleKept s t.enterCut := h.stopActuators.onSup _

theorem bandEffects (h : ScheduleKept s t) (old new : Band) : ScheduleKept s (t.bandEffects old new) := by
  unfold State.bandEffects
  split
  · exact h.report _
  · exact ((h.report _).report _).enterCut
  · exact (h.report _).enterCut
  · exact h.reportEnd _
  · exact (h.reportEnd _).clearAfterCut
  · exact ((h.reportEnd _).reportEnd _).clearAfterCut
  all_goals exact h

theorem takeBand (h : ScheduleKept s t) (b : Band) : ScheduleKept s (t.takeBand b) :=
  ((h.onSup _).bandEffects _ _).evaluateSupply

theorem takeSupplyFilter (h : ScheduleKept s t) : ScheduleKept s t.takeSupplyFilter := by
  unfold State.takeSupplyFilter
  split
  · exact h
  · split
    · exact h.takeBand _
    · exact h

theorem takeDriverFilter (h : ScheduleKept s t) (g : Fin 3) : ScheduleKept s (t.takeDriverFilter g) := by
  have turned : ScheduleKept s
      (t.onSvu fun v => { v with driverFault := v.driverFault.set g v.driverInput[g] }) := h.onSvu _
  unfold State.takeDriverFilter
  split
  · dsimp only
    split
    · exact turned.report _
    · exact turned.reportEnd _
  · exact h

/-! ### Reception and probes -/

theorem leakFell (h : ScheduleKept s t) (p : Port) : ScheduleKept s (t.leakFell p) := by
  unfold State.leakFell
  split <;> split
  · exact (h.onLiu _).reportEnd _
  · exact h
  · exact (h.onLiu _).reportEnd _
  · exact h

theorem leakRose (h : ScheduleKept s t) (p : Port) : ScheduleKept s (t.leakRose p) := by
  unfold State.leakRose
  split <;> split
  · exact (h.onLiu _).report _
  · exact h
  · exact (h.onLiu _).report _
  · exact h

theorem countGood (h : ScheduleKept s t) (p : Port) : ScheduleKept s (t.countGood p) :=
  (h.onLiu _).leakFell p

theorem countBad (h : ScheduleKept s t) (p : Port) : ScheduleKept s (t.countBad p) :=
  (h.onLiu _).leakRose p

theorem relay (h : ScheduleKept s t) (f : Frame) : ScheduleKept s (t.relay f) := by
  unfold State.relay
  split
  · exact h.elsewhere
  · exact (h.onLiu _).report _

theorem probeReturned (h : ScheduleKept s t) (number : Byte) (hold : Half) :
    ScheduleKept s (t.probeReturned number hold) := by
  unfold State.probeReturned
  split
  · exact h
  · split
    · dsimp only
      split
      · exact (h.onPdu _).reportEnd _
      · exact h.onPdu _
    · exact h

theorem takeRelayFrame (h : ScheduleKept s t) (kind : Byte) (payload : List Byte) :
    ScheduleKept s (t.takeRelayFrame kind payload) := by
  unfold State.takeRelayFrame
  split
  · split
    · exact (h.countGood _).probeReturned _ _
    · exact (h.countGood _).onLiu _
  · exact (h.countGood _).relay _

theorem missSample (h : ScheduleKept s t) : ScheduleKept s t.missSample := by
  unfold State.missSample
  dsimp only
  split
  · split
    · exact (h.onPdu _).onPdu _
    · exact ((h.onPdu _).onPdu _).report _
  · exact h.onPdu _

theorem takeProbeTimeout (h : ScheduleKept s t) : ScheduleKept s t.takeProbeTimeout := by
  unfold State.takeProbeTimeout
  split
  · exact h.missSample
  · exact h

theorem becomeChainEnd (h : ScheduleKept s t) : ScheduleKept s t.becomeChainEnd := by
  unfold State.becomeChainEnd
  dsimp only
  split
  · exact (h.onPdu _).reportEnd _
  · exact h.onPdu _

end ScheduleKept

end Sys2Proof.Machine
end

section
/-! SUPPORT. The hand-over of the pending entries (R43 to R46), and the operations of the clock, of the tables and of
time that contain one: the strikes stay spaced and in the account. -/
namespace Sys2Proof.Machine

/-! ### The hand-over of one entry -/

/-- No pending strike of the striker starts before the reserved window of a strike at the given drive start ends. -/
def State.ClearAfter (s : State) (n : Fin 24) (action : ShowTime) : Prop :=
  ∀ x ∈ s.sch.entries, x.striker = some n → before x.action ((s.strikerRecord n).windowEnd action) = false

/-- Channel n as the start of a drive of width w for an entry at the given action time sets it (R62, R63). -/
def State.startedChannel (n : Fin 24) (action : ShowTime) (w : Nat) (s : State) : Channel :=
  { s.channel n with
    output := w != 0
    drive := some { start := s.now, width := w }
    busyUntil := lapsing s.now (some ((s.strikerRecord n).windowEnd action)) }

/-- A drive that starts takes as its busy-until the end of its own reserved window, or none: the strikes that start
after that window stay spaced (R42, Drive start). -/
theorem State.Spaced.startedChannel {s : State} (h : s.Spaced) {n : Fin 24} {action : ShowTime}
    (clear : s.ClearAfter n action) (w : Nat) : (s.setChannel n (s.startedChannel n action w)).Spaced where
  follows := h.follows
  free x hx m hm u hu := by
    by_cases e : m = n
    · subst e
      rw [State.setChannel_channel_same, State.startedChannel, lapsing_eq_some] at hu
      obtain ⟨hend, _⟩ := hu
      cases hend
      exact clear x hx hm
    · rw [State.setChannel_channel_other e] at hu
      exact h.free x hx m hm u hu

/-- Past that change of the channel, a drive start does what the impact windows bring (R62, R74, R76). -/
theorem startDrive_kept (n : Fin 24) (action expected : ShowTime) (w : Nat) (s : State) :
    ScheduleKept (s.setChannel n (s.startedChannel n action w)) (s.startDrive n action expected w) := by
  have started := ScheduleKept.refl (s.setChannel n (s.startedChannel n action w))
  have closed := (started.closeAsMiss n).ite (p := (s.channel n).window.isSome = true) started
  unfold State.startDrive
  refine (ScheduleKept.ite ?_ closed).takeWindowEnd n
  exact closed.setChannel n _ (.inr rfl)

/-- One strike counted as started (R45). -/
def State.countStarted (s : State) : State := s.onSch fun q => { q with started := q.started + 1 }

/-- A strike counted as started is one fewer unaccounted for. -/
theorem countStarted_unaccounted (s : State) : s.countStarted.sch.unaccounted + 1 = s.sch.unaccounted := by
  simp only [State.countStarted, State.onSch_sch, Sch.unaccounted]
  ring

/-- A strike counted as dropped is one fewer unaccounted for. -/
theorem countDrop_unaccounted (r : DropReason) (s : State) :
    (s.countDrop r).sch.unaccounted + 1 = s.sch.unaccounted := by
  simp only [State.countDrop, State.onSch_sch, Sch.unaccounted, DropCounters.total_add]
  ring

theorem State.Spaced.countStarted {s : State} (h : s.Spaced) : s.countStarted.Spaced :=
  h.thinned (List.Sublist.refl _) rfl fun _ => .inr rfl

theorem State.Spaced.countDrop {s : State} (h : s.Spaced) (r : DropReason) : (s.countDrop r).Spaced :=
  h.thinned (List.Sublist.refl _) rfl fun _ => .inr rfl

theorem State.ClearAfter.of_same {s t : State} {n : Fin 24} {action : ShowTime} (h : s.ClearAfter n action)
    (entries : t.sch.entries = s.sch.entries) (tbs : t.tbs = s.tbs) : t.ClearAfter n action := by
  intro x hx hn
  rw [entries] at hx
  simpa only [State.strikerRecord, tbs] using h x hx hn

/-- A strike given to its channel, once a drive end and a recovery end of this instant are taken, is dropped for a
reason or starts its drive (R45, R60). -/
theorem handStrike_cases (n : Fin 24) (action expected : ShowTime) (w : Nat) (s : State) :
    ∃ t, ScheduleKept s t ∧ t.sch = s.sch ∧ t.tbs = s.tbs ∧
      ((∃ r, s.handStrike n action expected w = t.countDrop r) ∨
        ∃ v, s.handStrike n action expected w = t.countStarted.startDrive n action expected v) := by
  refine ⟨(s.takeDriveEnd n).takeRecoveryEnd n, ((ScheduleKept.refl s).takeDriveEnd n).takeRecoveryEnd n,
    by simp, by simp, ?_⟩
  unfold State.handStrike
  dsimp only
  split
  · exact .inl ⟨_, rfl⟩
  · exact .inr ⟨_, rfl⟩

/-- A strike given to its channel is counted once, as started or as dropped (R45). -/
theorem handStrike_account (n : Fin 24) (action expected : ShowTime) (w : Nat) (s : State) :
    (s.handStrike n action expected w).sch.unaccounted + 1 = s.sch.unaccounted := by
  obtain ⟨t, ready, _, _, ⟨r, dropped⟩ | ⟨v, driven⟩⟩ := handStrike_cases n action expected w s
  · rw [dropped, countDrop_unaccounted, ready.account]
  · rw [driven, (startDrive_kept n action expected v _).account, ← ready.account]
    exact countStarted_unaccounted t

/-- A strike given to its channel leaves spaced what starts after its reserved window. -/
theorem State.Spaced.handStrike {s : State} (h : s.Spaced) {n : Fin 24} {action : ShowTime}
    (clear : s.ClearAfter n action) (expected : ShowTime) (w : Nat) :
    (s.handStrike n action expected w).Spaced := by
  obtain ⟨t, ready, sch, tbs, ⟨r, dropped⟩ | ⟨v, driven⟩⟩ := handStrike_cases n action expected w s
  · rw [dropped]
    exact (ready.spaced h).countDrop r
  · have entries : t.sch.entries = s.sch.entries := by rw [sch]
    have clear' : t.countStarted.ClearAfter n action := clear.of_same entries tbs
    rw [driven]
    exact (startDrive_kept n action expected v _).spaced
      ((ready.spaced h).countStarted.startedChannel clear' v)

/-- An entry handed over is counted once if it is a strike, by one of the counters (R44, R45). -/
theorem handOver_account (e : Entry) (s : State) :
    (s.handOver e).sch.unaccounted + asCount (strikeCount [e]) = s.sch.unaccounted := by
  unfold State.handOver
  split
  · rename_i n w x hw
    have one : asCount (strikeCount [e]) = 1 := by simp [strikeCount, Entry.isStrike, hw, asCount]
    rw [one]
    dsimp only
    split
    · exact countDrop_unaccounted _ _
    · exact handStrike_account n e.action x w s
  · rename_i d a choke hw
    have none : asCount (strikeCount [e]) = 0 := by simp [strikeCount, Entry.isStrike, hw, asCount]
    rw [none, add_zero]
    dsimp only
    split
    · rfl
    · exact ((ScheduleKept.refl s).handDamper d a choke).account

/-- An entry handed over leaves spaced the entries that follow it. -/
theorem State.Spaced.handOver {s : State} (h : s.Spaced) {e : Entry}
    (follow : ∀ x ∈ s.sch.entries, Follows s.strikerRecord e x) : (s.handOver e).Spaced := by
  unfold State.handOver
  split
  · rename_i n w x hw
    have hn : e.striker = some n := (Entry.striker_eq_some e n).2 ⟨w, x, hw⟩
    dsimp only
    split
    · exact h.countDrop _
    · exact h.handStrike (fun y hy hm => follow y hy n hn hm) x w
  · rename_i d a choke hw
    have dropped : ScheduleKept s (s.onSch fun q => { q with damperDropped := q.damperDropped + 1 }) :=
      (ScheduleKept.refl s).damperCounts _ rfl rfl
    exact (dropped.ite ((ScheduleKept.refl s).handDamper d a choke)).spaced h

namespace ScheduleKept

variable {s t : State}

/-! ### Dues (R43) -/

/-- The head entry removed and handed over: it is counted, and those left follow it. -/
theorem handHead (h : ScheduleKept s t) {e : Entry} {rest : List Entry} (head : t.sch.entries = e :: rest) :
    ScheduleKept s ((t.onSch fun q => { q with entries := rest }).handOver e) := by
  refine h.trans ⟨fun spaced => ?_, ?_⟩
  · have follow := head ▸ spaced.follows
    have fewer : rest.Sublist t.sch.entries := by rw [head]; exact List.sublist_cons_self e rest
    have rested : (t.onSch fun q => { q with entries := rest }).Spaced :=
      spaced.thinned fewer rfl fun _ => .inr rfl
    exact rested.handOver (List.pairwise_cons.1 follow).1
  · have left := Sch.unaccounted_behead head
    have counted := handOver_account e (t.onSch fun q => { q with entries := rest })
    rw [State.onSch_sch, left] at counted
    exact add_right_cancel counted

theorem dueLoop (h : ScheduleKept s t) (k : Nat) : ScheduleKept s (t.dueLoop k) := by
  induction k generalizing t with
  | zero => exact h
  | succ k ih =>
    unfold State.dueLoop
    split
    · exact h
    · rename_i e rest head
      split
      · exact ih (h.handHead head)
      · exact h

theorem takeDue (h : ScheduleKept s t) : ScheduleKept s t.takeDue := h.dueLoop _

/-! ### The clock (R101 to R108) -/

theorem takeAlign (h : ScheduleKept s t) : ScheduleKept s t.takeAlign :=
  h.elsewhere

theorem takeSwapTime (h : ScheduleKept s t) : ScheduleKept s t.takeSwapTime := by
  unfold State.takeSwapTime
  exact ite (h.onTbs _ rfl) h

theorem enterSync (h : ScheduleKept s t) (x : SyncState) : ScheduleKept s (t.enterSync x) := by
  have entered := h.onScu fun c => { c with sync := x }
  unfold State.enterSync
  exact ite (entered.onTbs _ rfl) entered

theorem scheduleStep (h : ScheduleKept s t) (k : Int) : ScheduleKept s (t.scheduleStep k) := by
  unfold State.scheduleStep
  exact ite h.flushSchedule (ite h.takeDue (h.flush _))

theorem moveTimes (h : ScheduleKept s t) (k : Int) : ScheduleKept s (t.moveTimes k) :=
  ((h.mapChannels _ fun _ c => c.moveBy_busyUntil k t.now).onDmc _).onRot _

theorem stepClock (h : ScheduleKept s t) (k : Int) : ScheduleKept s (t.stepClock k) := by
  have set := ((h.moveTimes k).onScu (Scu.stepped k)).scheduleStep k
  unfold State.stepClock
  exact ite (h.onScu _) (foldl (fun _ n h => h.takeWindowEnd n) _ set).takeAlign.takeSwapTime

theorem markUnlocked (h : ScheduleKept s t) (e : Int) : ScheduleKept s (t.markUnlocked e) :=
  ((h.stepClock e).onScu _).enterSync .acquiring

theorem markAcquiring (h : ScheduleKept s t) (e : Int) (q : Quality) : ScheduleKept s (t.markAcquiring e q) := by
  have judged : ScheduleKept s
      (if e.natAbs ≤ 2 then t.onScu fun c => { c with confidence := moreConfident c.confidence }
        else (t.stepClock e).onScu fun c => { c with confidence := 0 }) :=
    ite (h.onScu _) ((h.stepClock e).onScu _)
  unfold State.markAcquiring
  exact ite (judged.enterSync _) judged

theorem markLocked (h : ScheduleKept s t) (e : Int) (early : Bool) : ScheduleKept s (t.markLocked e early) := by
  have reported := (h.onScu fun c => { c with confidence := c.confidence - 2 }).report .clockWindow
  unfold State.markLocked
  exact ite (ite ((reported.onScu _).enterSync _) reported) (h.onScu _)

theorem markHoldover (h : ScheduleKept s t) (e : Int) : ScheduleKept s (t.markHoldover e) := by
  unfold State.markHoldover
  exact ite ((h.onScu _).enterSync _) ((((h.onScu _).enterSync _).stepClock e).onScu _)

theorem disciplineClock (h : ScheduleKept s t) (x : ShowTime) (d : Nat) (q : Quality) :
    ScheduleKept s (t.disciplineClock x d q) := by
  have noted := h.onScu fun c => { c with lastPathDelay := d, qualityIn := q, lastMark := some t.localTime }
  unfold State.disciplineClock
  dsimp only
  split
  · exact noted.markUnlocked _
  · exact noted.markAcquiring _ _
  · exact noted.markLocked _ _
  · exact noted.markHoldover _

theorem takePosition (h : ScheduleKept s t) (hop : Byte) : ScheduleKept s (t.takePosition hop) := by
  unfold State.takePosition
  exact ite (ite ((h.onLiu _).reportEnd _) (h.onLiu _)) (ite (h.onLiu _) ((h.onLiu _).report _))

theorem takeMark (h : ScheduleKept s t) (x : ShowTime) (hop : Byte) (d : BitVec 24) (q : Byte) :
    ScheduleKept s (t.takeMark x hop d q) :=
  ((((h.countGood _).takePosition hop).disciplineClock _ _ _).onPdu _).forwardMark _

theorem takeSupervision (h : ScheduleKept s t) : ScheduleKept s t.takeSupervision := by
  unfold State.takeSupervision
  exact ite ((h.onScu _).enterSync _) h

theorem takeHoldoverExpiry (h : ScheduleKept s t) : ScheduleKept s t.takeHoldoverExpiry := by
  unfold State.takeHoldoverExpiry
  exact ite (((h.onScu _).report _).flushSchedule.enterSync _) h

/-! ### Tables and modes -/

theorem openPointer (h : ScheduleKept s t) (table : Byte) (start : Nat) :
    ScheduleKept s (t.openPointer table start) := by
  have closed : ScheduleKept s (t.setPointer none) := h.onTbs _ rfl
  unfold State.openPointer
  dsimp only
  split
  · exact closed.onTbs _ rfl
  · exact ite (closed.report _) (closed.onTbs _ rfl)

theorem writeNode (h : ScheduleKept s t) (r : NodeRecord) : ScheduleKept s (t.writeNode r) := by
  have written := (h.onTbs (fun b => { b with node := r }) rfl).onRot fun x =>
    { x with position := x.position % r.stepsPerRev }
  unfold State.writeNode
  exact (ite written.becomeChainEnd written).evaluateSupply.takeSupplyFilter

theorem bankSwap (h : ScheduleKept s t) (x : ShowTime) (digest : Half) : ScheduleKept s (t.bankSwap x digest) := by
  unfold State.bankSwap
  exact ite h (ite (h.report _) (ite (h.onTbs _ rfl) (h.onTbs _ rfl)))

theorem commitTables (h : ScheduleKept s t) (digest : Half) : ScheduleKept s (t.commitTables digest) := by
  unfold State.commitTables
  exact ite (ite (((h.onMdc _).setMode _).onSvu _).clearAll (h.report _)) h

theorem resumeMode (h : ScheduleKept s t) : ScheduleKept s t.resumeMode := by
  unfold State.resumeMode
  exact ite (ite (h.onMdc _) (h.setMode _)) h

theorem takeConfigTimeout (h : ScheduleKept s t) : ScheduleKept s t.takeConfigTimeout := by
  unfold State.takeConfigTimeout
  exact ite (((((h.onMdc _).report _).onDmc _).onRot _).onTbs _ rfl |>.setMode _) h

/-! ### Time -/

theorem take (h : ScheduleKept s t) (e : ShowEvent) : ScheduleKept s (t.take e) := by
  cases e with
  | due => exact h.takeDue
  | driveEnd n => exact h.takeDriveEnd n
  | recoveryEnd n => exact h.takeRecoveryEnd n
  | busyUntilLapse n => exact h.takeBusyLapse n
  | impactWindowEnd n => exact h.takeWindowEnd n
  | travelEnd d => exact h.takeTravelEnd d
  | chokeHoldExpiry d => exact h.elsewhere (u := t.takeHoldExpiry d)
  | risingEdge => exact h.elsewhere (u := t.takeRisingEdge)
  | fallingEdge => exact h.elsewhere (u := t.takeFallingEdge)
  | align => exact h.takeAlign
  | swap => exact h.takeSwapTime

theorem settle (h : ScheduleKept s t) (n : Nat) : ScheduleKept s (t.settle n) := by
  induction n generalizing t with
  | zero => exact foldl (fun _ n h => h.takeDriveEnd n) _ h.takeDue
  | succ n ih =>
    unfold State.settle
    split
    · exact h
    · have chosen : ScheduleKept s t.chosen := h.elsewhere rfl rfl rfl
      exact ih (chosen.take _)

theorem takeSlewGrain (h : ScheduleKept s t) : ScheduleKept s t.takeSlewGrain := by
  have passed : ScheduleKept s (({ t with localTime := t.localTime + 1 } : State).onScu Scu.slewStep) :=
    h.elsewhere rfl rfl rfl
  unfold State.takeSlewGrain
  exact ite (ite (((passed.onScu _).settle _).onScu _) passed) h

theorem passFineUnit (h : ScheduleKept s t) : ScheduleKept s t.passFineUnit := by
  have passed : ScheduleKept s ({ t with localTime := t.localTime + 1 } : State) := h.elsewhere rfl rfl rfl
  unfold State.passFineUnit
  exact ite (passed.onScu _) passed

end ScheduleKept

end Sys2Proof.Machine
end

section
/-! SUPPORT. The operations that do more to the schedule than keep it: an acceptance, the write of a striker record,
CLEAR statistics and the end of a reset. -/
namespace Sys2Proof.Machine

/-! ### What an acceptance and a write of a record need -/

/-- What the laws give a command that inserts a strike or writes a striker record: spaced strikes in order and within
the horizon, records in their ranges, and an empty schedule while the striker table is written. -/
structure State.Ready (s : State) : Prop where
  spaced : s.Spaced
  order : s.sch.entries.Pairwise fun a b => signedDiff a.action b.action ≤ 0
  span : ∀ e ∈ s.sch.entries, InSpan s.now e.action
  setup : s.node.setupMargin ≤ 1000
  lengths : ∀ n, (s.strikerRecord n).wMax + (s.strikerRecord n).recovery ≤ 67582
  unwritten : ∀ p, s.tbs.pointer = some p → p.table = .striker → s.sch.entries = []

/-- A window is 2047 + 65535 grains long at most (R27, R162). -/
theorem State.StoredLaw.window_le {s : State} (h : s.StoredLaw) (n : Fin 24) :
    (s.strikerRecord n).wMax + (s.strikerRecord n).recovery ≤ 67582 := by
  rw [← h.strikers n]
  have hrec := (at2 (s.strikerRecord n).bytes 9).isLt
  simp only [StrikerRecord.ofBytes]
  omega

/-- The striker table is writable only in IDLE and CONFIG, where the schedule is empty (R42, Unchanged records). -/
theorem State.PointerLaw.empty_schedule {s : State} (hp : s.PointerLaw) (hs : s.ScheduleLaw) {p : LoadPointer}
    (h : s.tbs.pointer = some p) (ht : p.table = .striker) : s.sch.entries = [] := by
  obtain ⟨writable, _⟩ := hp.pointer p h
  refine hs.onlyInRun fun run => ?_
  rw [ht, run] at writable
  cases writable

theorem State.ready_of_laws {s : State} (stored : s.StoredLaw) (pointer : s.PointerLaw) (schedule : s.ScheduleLaw)
    (windows : s.WindowLaw) : s.Ready where
  spaced :=
    { follows := by
        refine pairwise_follows stored.window_le schedule.span schedule.order (windows.apart.imp fun h n ha hb => ?_)
        obtain ⟨v, e, ha⟩ := (Entry.striker_eq_some _ _).1 ha
        obtain ⟨w, f, hb⟩ := (Entry.striker_eq_some _ _).1 hb
        exact h n v e w f ha hb
      free := fun x hx n hn => by
        obtain ⟨w, e, hw⟩ := (Entry.striker_eq_some _ _).1 hn
        exact windows.free x hx n w e hw }
  order := schedule.order
  span := schedule.span
  setup := schedule.setup
  lengths := stored.window_le
  unwritten _ h ht := pointer.empty_schedule schedule h ht

theorem State.Ready.of_same {s t : State} (h : s.Ready) (kept : ScheduleKept s t) (sch : t.sch = s.sch)
    (scu : t.scu = s.scu) (tbs : t.tbs = s.tbs) : t.Ready where
  spaced := kept.spaced h.spaced
  order := sch ▸ h.order
  span := by rw [sch, State.now, scu]; exact h.span
  setup := by rw [State.node, tbs]; exact h.setup
  lengths n := by simpa only [State.strikerRecord, tbs] using h.lengths n
  unwritten := by rw [sch, tbs]; exact h.unwritten

/-- From s to t by a command: the strikes stay spaced, and the account is as it was or settled anew. -/
structure CommandKept (s t : State) : Prop where
  spaced : s.Ready → t.Spaced
  account : t.sch.unaccounted = s.sch.unaccounted ∨ t.sch.unaccounted = 0

theorem ScheduleKept.command {s t : State} (h : ScheduleKept s t) : CommandKept s t :=
  ⟨fun ready => h.spaced ready.spaced, .inl h.account⟩

theorem CommandKept.trans {s t u : State} (h : CommandKept s t) (h' : ScheduleKept t u) : CommandKept s u :=
  ⟨fun ready => h'.spaced (h.spaced ready), by rw [h'.account]; exact h.account⟩

/-- A command taken after a step that changes neither schedule, clock nor tables. -/
theorem CommandKept.of_same {s t u : State} (h : CommandKept t u) (kept : ScheduleKept s t) (sch : t.sch = s.sch)
    (scu : t.scu = s.scu) (tbs : t.tbs = s.tbs) : CommandKept s u :=
  ⟨fun ready => h.spaced (ready.of_same kept sch scu tbs), by rw [← kept.account]; exact h.account⟩

/-! ### Acceptance of strikes (R25 to R31) -/

/-- An action time that passes the timing checks lies within the horizon (R25, R26, R40). -/
theorem checkTiming_inSpan {s : State} {d a : ShowTime} (setup : s.node.setupMargin ≤ 1000)
    (h : s.checkTiming d = .ok a) : InSpan s.now a := by
  have late := signedDiff_plusGrains s.now s.node.setupMargin (by omega)
  unfold State.checkTiming at h
  dsimp only at h
  split at h
  · cases h
  · split at h
    · cases h
      exact ⟨by omega, by omega⟩
    · split at h
      · cases h
        simp only [InSpan, late, Config.horizon]
        omega
      · cases h

/-- A striker without a conflict: no window of its own overlaps, and it is not busy past the drive start (R27). -/
theorem conflicts_eq_false {s : State} {n : Fin 24} {d : ShowTime} (h : s.conflicts n d = false) :
    (∀ x ∈ s.sch.entries, x.striker = some n →
      windowsOverlap ((s.strikerRecord n).wMax + (s.strikerRecord n).recovery) d x.action = false) ∧
    ∀ t, (s.channel n).busyUntil = some t → before d t = false := by
  simp only [State.conflicts, Bool.or_eq_false_iff, List.any_eq_false, Option.any_eq_false] at h
  obtain ⟨apart, free⟩ := h
  refine ⟨fun x hx hn => ?_, fun t ht => by simpa using free t ht⟩
  obtain ⟨w, e, hw⟩ := (Entry.striker_eq_some _ _).1 hn
  simpa [hw] using apart x hx

/-- The chosen candidate's drive start has passed the timing checks and has no conflict. -/
def State.Fits (c : Candidacy) (s : State) : Prop :=
  (∃ d, s.checkTiming d = .ok c.start) ∧ s.conflicts c.striker c.start = false

theorem tryStriker_fits {s : State} {n : Fin 24} {force : Nat} {target : ShowTime} {c : Candidacy}
    (h : s.tryStriker n force target = .ok c) : s.Fits c := by
  unfold State.tryStriker at h
  dsimp only at h
  split at h
  · cases h
  · split at h
    · cases h
    · rename_i start timed
      split at h
      · cases h
      · rename_i free
        cases h
        exact ⟨⟨_, timed⟩, by simpa using free⟩

theorem chooseStriker_fits {s : State} {e : NoteEntry} {force : Nat} {target : ShowTime} {c : Candidacy}
    (h : s.chooseStriker e force target = .ok c) : s.Fits c := by
  unfold State.chooseStriker at h
  split at h
  · rename_i primary
    cases h
    exact tryStriker_fits primary
  · split at h
    · cases h
    · exact tryStriker_fits h

theorem chokeEntry_striker {s : State} {e : NoteEntry} {start target : ShowTime} {choke : Option Half} {x : Entry}
    (h : x ∈ (s.chokeEntry e start target choke).toList) : x.striker = none := by
  unfold State.chokeEntry at h
  split at h
  · dsimp only at h
    split at h
    · rw [Option.toList_some, List.mem_singleton] at h
      subst h
      rfl
    · cases h
  · cases h

/-- An accepted PLAY has one strike entry, for a candidate that fits, and damper entries behind it (R31). -/
theorem decidePlay_ok {s : State} {note force articulation : Byte} {target : ShowTime} {choke : Option Half}
    {c : Candidacy} {es : List Entry} (h : s.decidePlay note force articulation target choke = .ok (c, es)) :
    s.Fits c ∧ ∃ w chokes, es = strikeEntry c target w :: chokes ∧ ∀ x ∈ chokes, x.striker = none := by
  unfold State.decidePlay at h
  cases hopen : s.requestOpen with
  | error r => rw [hopen] at h; cases h
  | ok u =>
    rw [hopen] at h
    simp only [bind, Except.bind] at h
    split at h
    · cases h
    split at h
    · cases h
    split at h
    · cases h
    split at h
    · cases h
    rename_i chosen
    split at h
    · cases h
    · cases h
      exact ⟨chooseStriker_fits chosen, _, _, rfl, fun x hx => chokeEntry_striker hx⟩

/-- Damper entries follow whatever they are inserted among. -/
theorem insertAll_dampers_follows {r : Fin 24 → StrikerRecord} {es : List Entry}
    (dampers : ∀ e ∈ es, e.striker = none) {l : List Entry} (h : l.Pairwise (Follows r)) :
    (es.foldl (fun l e => insertEntry e l) l).Pairwise (Follows r) := by
  induction es generalizing l with
  | nil => exact h
  | cons e es ih =>
    exact ih (fun x hx => dampers x (List.mem_cons_of_mem _ hx))
      (insertEntry_damper_follows (dampers e List.mem_cons_self) h)

/-- The conflict check of R27 holds the law of the windows at an insertion (R42). -/
theorem State.Ready.insert {s : State} (h : s.Ready) {e : Entry} {n : Fin 24} (hn : e.striker = some n)
    (span : InSpan s.now e.action) (fits : s.conflicts n e.action = false) {chokes : List Entry}
    (dampers : ∀ x ∈ chokes, x.striker = none) : (s.onSch (Sch.insertAll (e :: chokes))).Spaced where
  follows := by
    obtain ⟨apart, _⟩ := conflicts_eq_false fits
    refine insertAll_dampers_follows dampers (pairwise_follows h.lengths (now := s.now) ?_ ?_ ?_)
    · intro x hx
      rcases (mem_insertEntry e x _).1 hx with rfl | hx
      · exact span
      · exact h.span x hx
    · exact insertEntry_order span h.span h.order
    · refine ((insertEntry_perm e _).pairwise_iff Apart.symm).2 ?_
      refine List.pairwise_cons.2 ⟨fun x hx m hm hxm => ?_, ?_⟩
      · rw [hn] at hm
        cases hm
        exact apart x hx hxm
      · exact h.spaced.follows.imp Follows.apart
  free x hx m hm t ht := by
    obtain ⟨_, free⟩ := conflicts_eq_false fits
    rcases List.mem_append.1 ((insertAll_perm (e :: chokes) _).mem_iff.1 hx) with hx | hx
    · rcases List.mem_cons.1 hx with rfl | hx
      · rw [hn] at hm
        cases hm
        exact free t ht
      · rw [dampers x hx] at hm
        cases hm
    · exact h.spaced.free x hx m hm t ht

theorem ScheduleKept.refuse {s t : State} (h : ScheduleKept s t) (r : RefuseReason) : ScheduleKept s (t.refuse r) := by
  unfold State.refuse
  exact .ite ((h.onAcu _).report _) (h.onAcu _)

theorem takePlay_kept (note force articulation : Byte) (target : ShowTime) (choke : Option Half) (s : State) :
    CommandKept s (s.takePlay note force articulation target choke) := by
  unfold State.takePlay
  split
  · exact ((ScheduleKept.refl s).refuse _).command
  · rename_i c es accepted
    obtain ⟨⟨⟨d, timed⟩, fits⟩, w, chokes, rfl, dampers⟩ := decidePlay_ok accepted
    have inserted : CommandKept s (s.onSch (Sch.insertAll (strikeEntry c target w :: chokes))) :=
      { spaced := fun ready =>
          ready.insert (e := strikeEntry c target w) rfl (checkTiming_inSpan ready.setup timed) fits dampers
        account := .inl (Sch.insertAll_unaccounted _ _) }
    exact inserted.trans ((ScheduleKept.refl _).onAcu _).takeDue

/-! ### Acceptance of dampers (R35) -/

theorem damperEntries_striker {a : DamperAction} {target : ShowTime} {s : State} {ds : List (Fin 4)}
    {es : List Entry} (h : s.damperEntries a target ds = .ok es) : ∀ x ∈ es, x.striker = none := by
  induction ds generalizing es with
  | nil => cases h; simp
  | cons d ds ih =>
    unfold State.damperEntries State.damperEntry at h
    split at h
    · cases h
    · rename_i e formed
      split at formed
      · cases formed
      · cases formed
        split at h
        · cases h
        · rename_i rest others
          cases h
          intro x hx
          rcases List.mem_cons.1 hx with rfl | hx
          · rfl
          · exact ih others x hx

theorem decideMute_striker {selector : Option (Fin 4)} {a : DamperAction} {target : ShowTime} {s : State}
    {es : List Entry} (h : s.decideMute selector a target = .ok es) : ∀ x ∈ es, x.striker = none := by
  unfold State.decideMute at h
  cases hopen : s.requestOpen with
  | error r => rw [hopen] at h; cases h
  | ok u =>
    rw [hopen] at h
    simp only [bind, Except.bind] at h
    split at h
    · cases h
    · split at h
      · cases h
      · rename_i formed
        split at h
        · cases h
        · cases h
          exact damperEntries_striker formed

theorem takeMute_kept (selector action : Byte) (target : ShowTime) (s : State) :
    ScheduleKept s (s.takeMute selector action target) := by
  unfold State.takeMute
  split
  · exact (ScheduleKept.refl s).refuse _
  · rename_i es accepted
    have dampers := decideMute_striker accepted
    have inserted : ScheduleKept s (s.onSch (Sch.insertAll es)) :=
      { spaced := fun spaced =>
          { follows := insertAll_dampers_follows dampers spaced.follows
            free := fun x hx n hn => by
              rcases List.mem_append.1 ((insertAll_perm es _).mem_iff.1 hx) with hx | hx
              · rw [dampers x hx] at hn
                cases hn
              · exact spaced.free x hx n hn }
        account := Sch.insertAll_unaccounted _ _ }
    exact inserted.takeDue

/-! ### Writes of items (R165, R166) -/

/-- The write of a striker record leaves the schedule as it is. -/
theorem writeItems_striker_sch (k i : Nat) (bs : List Byte) (s : State) :
    (State.writeItems .striker k i bs s).sch = s.sch := by
  induction k generalizing s i bs with
  | zero => rfl
  | succ k ih =>
    unfold State.writeItems
    rw [ih]
    unfold State.writeItem
    dsimp only
    split <;> rfl

/-- A table's bank replaced leaves the striker records as they are. -/
theorem setLoadTables_strikers (b : Bank) (t : Tbs) : (t.setLoadTables b).strikers = t.strikers := by
  unfold Tbs.setLoadTables
  split <;> rfl

theorem ScheduleKept.writeItem {s t : State} (h : ScheduleKept s t) {table : TableId} (ht : table ≠ .striker)
    (i : Nat) (bs : List Byte) : ScheduleKept s (t.writeItem table i bs) := by
  unfold State.writeItem
  cases table with
  | striker => exact absurd rfl ht
  | damper =>
    dsimp only
    split
    · exact (h.onTbs _ rfl).onDmc _
    · exact h
  | node => exact h.writeNode _
  | supervision => exact h.elsewhere
  | note => exact h.onTbs _ (setLoadTables_strikers _ _)
  | curve => exact h.onTbs _ (setLoadTables_strikers _ _)
  | articulation => exact h.onTbs _ (setLoadTables_strikers _ _)

theorem ScheduleKept.writeItems {s t : State} (h : ScheduleKept s t) {table : TableId} (ht : table ≠ .striker)
    (k i : Nat) (bs : List Byte) : ScheduleKept s (State.writeItems table k i bs t) := by
  induction k generalizing t i bs with
  | zero => exact h
  | succ k ih => exact ih (h.writeItem ht _ _) _ _

theorem ScheduleKept.afterWrite {s t : State} (h : ScheduleKept s t) (table : TableId) :
    ScheduleKept s (t.afterWrite table) := by
  unfold State.afterWrite
  refine .ite (h.onTbs _ ?_) (.ite (h.onMdc _) h)
  unfold Tbs.cancelSwap
  split <;> rfl

theorem ScheduleKept.loadError {s t : State} (h : ScheduleKept s t) (table : TableId) :
    ScheduleKept s (t.loadError table) :=
  (h.onTbs (fun b => { b with pointer := none }) rfl).report _

/-- A LOAD_DATA keeps the schedule but for its writes, which go where the load pointer points (R165). -/
theorem loadItems_cases (sequence : Byte) (bs : List Byte) (s : State) :
    ScheduleKept s (s.loadItems sequence bs) ∨
    ∃ p k, s.tbs.pointer = some p ∧
      ScheduleKept (State.writeItems p.table k p.next bs s) (s.loadItems sequence bs) := by
  unfold State.loadItems
  split
  · exact .inl ((ScheduleKept.refl s).onTbs _ rfl)
  · rename_i p hp
    split
    · exact .inl ((ScheduleKept.refl s).loadError _)
    · refine .inr ⟨p, min (bs.length / p.table.itemSize) (p.table.count - p.next), hp, ?_⟩
      have written := ScheduleKept.refl
        (State.writeItems p.table (min (bs.length / p.table.itemSize) (p.table.count - p.next)) p.next bs s)
      have noted := (written.afterWrite p.table).ite
        (p := 0 < min (bs.length / p.table.itemSize) (p.table.count - p.next)) written
      exact .ite (noted.loadError _) (.ite (noted.onTbs _ rfl) (noted.onTbs _ rfl))

/-- Writes at the load pointer: of striker records only while the schedule is empty (R42, Unchanged records). -/
theorem writeItems_kept {s : State} {p : LoadPointer} (hp : s.tbs.pointer = some p) (k : Nat) (bs : List Byte) :
    CommandKept s (State.writeItems p.table k p.next bs s) := by
  by_cases ht : p.table = .striker
  · have sch := writeItems_striker_sch k p.next bs s
    rw [ht]
    exact ⟨fun ready => .of_empty (by rw [sch]; exact ready.unwritten p hp ht), .inl (by rw [sch])⟩
  · exact ((ScheduleKept.refl s).writeItems ht _ _ _).command

theorem loadItems_kept (sequence : Byte) (bs : List Byte) (s : State) : CommandKept s (s.loadItems sequence bs) := by
  rcases loadItems_cases sequence bs s with kept | ⟨p, k, hp, kept⟩
  · exact kept.command
  · exact (writeItems_kept hp k bs).trans kept

/-! ### CLEAR statistics and the end of a reset (R55, R56) -/

@[simp] theorem Sch.unaccounted_reset : ({} : Sch).unaccounted = 0 := by decide

theorem clearStatistics_unaccounted (s : State) : s.clearStatistics.sch.unaccounted = 0 :=
  Sch.clearStatistics_unaccounted s.sch

theorem clearStatistics_kept (s : State) : CommandKept s s.clearStatistics where
  spaced ready := ready.spaced.thinned (List.Sublist.refl _) rfl fun _ => .inr rfl
  account := .inr (clearStatistics_unaccounted s)

theorem takeResetEnd_kept (s : State) : CommandKept s s.takeResetEnd := by
  unfold State.takeResetEnd
  split
  · exact (ScheduleKept.refl s).command
  · rename_i r _
    have reset : CommandKept s (s.resetValues r.cause) := ⟨fun _ => .of_empty rfl, .inr Sch.unaccounted_reset⟩
    split
    · exact reset.trans (ScheduleKept.refl _).evaluateSupply
    · exact (ScheduleKept.refl s).command

end Sys2Proof.Machine
end

section
/-! SUPPORT. The commands and the step, and the two laws of the schedule that they keep. -/
namespace Sys2Proof.Machine

/-! ### Frames and their owners (R123, R125) -/

theorem performance_kept (ensemble : Byte) (f : Frame) {owner : State → State}
    (h : ∀ s, CommandKept s (owner s)) (s : State) : CommandKept s (s.performance ensemble f owner) := by
  have heard := (ScheduleKept.refl s).countGood .upstream
  unfold State.performance
  dsimp only
  split
  · exact ((h _).of_same heard (by simp) (by simp) (by simp)).trans ((ScheduleKept.refl _).forwardCopy _ _)
  · exact (heard.forwardCopy _ _).command

theorem management_kept (position : Byte) (f : Frame) {owner : State → State}
    (h : ∀ s, CommandKept s (owner s)) (s : State) : CommandKept s (s.management position f owner) := by
  have heard := (ScheduleKept.refl s).countGood .upstream
  have owned : CommandKept s
      (if (s.countGood .upstream).matchesPosition position then owner (s.countGood .upstream)
        else s.countGood .upstream) := by
    split
    · exact (h _).of_same heard (by simp) (by simp) (by simp)
    · exact heard.command
  unfold State.management
  dsimp only
  split
  · exact owned
  · exact owned.trans ((ScheduleKept.refl _).forwardCopy _ _)

theorem takeAsk_kept (position subject : Byte) (parameters : List Byte) (content : State → List Byte) (s : State) :
    CommandKept s (s.takeAsk position subject parameters content) :=
  management_kept _ _ (fun s => (ScheduleKept.refl s).elsewhere.command) s

theorem takeRestart_kept (position : Byte) (s : State) : ScheduleKept s (s.takeRestart position) := by
  have heard := (ScheduleKept.refl s).countGood .upstream
  unfold State.takeRestart
  exact .ite heard.handRestart (heard.forwardCopy _ _)

theorem clearNamed_kept (kind subject : Byte) (s : State) : ScheduleKept s (s.clearNamed kind subject) := by
  unfold State.clearNamed
  split
  · exact .refl s
  · exact (ScheduleKept.refl s).clearPair _

theorem takeMalformed_kept (kind : Byte) (payload : List Byte) (s : State) :
    ScheduleKept s (s.takeMalformed kind payload) := by
  have counted := ((ScheduleKept.refl s).countGood .upstream).onLiu fun l =>
    { l with counters := { l.counters with malformed := l.counters.malformed + 1 } }
  unfold State.takeMalformed
  exact .ite counted (counted.forwardCopy _ _)

/-! ### Pins and resets (R146, R147, R159) -/

theorem assertLine_kept (s : State) : ScheduleKept s s.assertLine := by
  unfold State.assertLine
  exact .ite (.refl s) (((ScheduleKept.refl s).beginReset .line none).elsewhere rfl rfl rfl)

theorem releaseLine_kept (s : State) : ScheduleKept s s.releaseLine := by
  unfold State.releaseLine
  split
  · split
    all_goals exact (ScheduleKept.refl s).elsewhere rfl rfl rfl
  · exact .refl s

/-! ### Every command -/

/-- A command that is taken unless a reset lasts does what its effect does, or nothing. -/
theorem running_kept {f : State → State} {s t : State} (h : CommandKept s (f s)) (run : running f s = .next t) :
    CommandKept s t := by
  unfold running at run
  split at run <;> cases run
  · exact (ScheduleKept.refl s).command
  · exact h

theorem exec_kept (i : Instr) {s t : State} (run : exec i s = .next t) : CommandKept s t := by
  have kept := ScheduleKept.refl s
  have owned : ∀ {f : State → State}, (∀ s t, ScheduleKept s t → ScheduleKept s (f t)) →
      ∀ s, CommandKept s (f s) :=
    fun h s => (h s s (.refl s)).command
  cases i with
  | mark x hop d q => exact running_kept (kept.takeMark x hop d q).command run
  | play e n f a x c => exact running_kept (performance_kept _ _ (takePlay_kept n f a x c) s) run
  | mute e d a x => exact running_kept (performance_kept _ _ (fun s => (takeMute_kept d a x s).command) s) run
  | setMasterGain e g => exact running_kept (performance_kept _ _ (owned fun _ _ h => h.onAcu _) s) run
  | setQuietCeiling e c => exact running_kept (performance_kept _ _ (owned fun _ _ h => h.onAcu _) s) run
  | setRotorRate e r => exact running_kept (performance_kept _ _ (owned fun _ _ h => h.elsewhere) s) run
  | setRotorAlign e x => exact running_kept (performance_kept _ _ (owned fun _ _ h => h.elsewhere) s) run
  | flushAll e => exact running_kept (performance_kept _ _ (owned fun _ _ h => h.flushSchedule) s) run
  | flushFromTime e x => exact running_kept (performance_kept _ _ (owned fun _ _ h => h.flush _) s) run
  | bankswap p x d => exact running_kept (management_kept _ _ (owned fun _ _ h => h.bankSwap x d) s) run
  | loadOpen p b i => exact running_kept (management_kept _ _ (owned fun _ _ h => h.openPointer b i.toNat) s) run
  | loadData p n bs => exact running_kept (management_kept _ _ (loadItems_kept n bs) s) run
  | commit p d => exact running_kept (management_kept _ _ (owned fun _ _ h => h.commitTables d) s) run
  | askStatus p => exact running_kept (takeAsk_kept _ _ _ _ s) run
  | askFaults p => exact running_kept (takeAsk_kept _ _ _ _ s) run
  | askCounters p => exact running_kept (takeAsk_kept _ _ _ _ s) run
  | askStriker p n => exact running_kept (takeAsk_kept _ _ _ _ s) run
  | askDampers p => exact running_kept (takeAsk_kept _ _ _ _ s) run
  | askRotor p => exact running_kept (takeAsk_kept _ _ _ _ s) run
  | askClock p => exact running_kept (takeAsk_kept _ _ _ _ s) run
  | askLink p => exact running_kept (takeAsk_kept _ _ _ _ s) run
  | askDigests p => exact running_kept (takeAsk_kept _ _ _ _ s) run
  | askTable p b k i c => exact running_kept (takeAsk_kept _ _ _ _ s) run
  | askUnknownSubject p n => exact running_kept (takeAsk_kept _ _ _ _ s) run
  | clearRecord p k n => exact running_kept (management_kept _ _ (fun s => (clearNamed_kept k n s).command) s) run
  | clearAllFaults p => exact running_kept (management_kept _ _ (owned fun _ _ h => h.clearAll) s) run
  | clearFirstFault p => exact running_kept (management_kept _ _ (owned fun _ _ h => h.onSvu _) s) run
  | clearStatistics p => exact running_kept (management_kept _ _ clearStatistics_kept s) run
  | halt p => exact running_kept (management_kept _ _ (owned fun _ _ h => h.requestSafe) s) run
  | resume p => exact running_kept (management_kept _ _ (owned fun _ _ h => h.resumeMode) s) run
  | restart p => exact running_kept (takeRestart_kept p s).command run
  | probe o n hold =>
    exact running_kept
      ((kept.countGood .upstream).elsewhere (u := (s.countGood .upstream).holdProbe o n)).command run
  | badFrame p => exact running_kept (kept.countBad p).command run
  | unknownKindFrame k bs =>
    exact running_kept (((kept.countGood .upstream).onLiu _).forwardCopy ⟨k, bs⟩ false).command run
  | malformedFrame k bs => exact running_kept (takeMalformed_kept k bs s).command run
  | returnedProbe o n hold => exact running_kept ((kept.countGood .downstream).probeReturned n hold).command run
  | relayFrame k bs => exact running_kept (kept.takeRelayFrame k bs).command run
  | downstreamFrameBoundary => exact running_kept kept.takeDownBoundary.command run
  | probeSend => exact running_kept kept.elsewhere.command run
  | probeWindowExpiry => exact running_kept kept.elsewhere.command run
  | probeTimeout => exact running_kept kept.takeProbeTimeout.command run
  | upstreamFrameBoundary => exact running_kept kept.elsewhere.command run
  | slewGrain => exact running_kept kept.takeSlewGrain.command run
  | due => exact running_kept kept.takeDue.command run
  | driveEnd n => exact running_kept (kept.takeDriveEnd n).command run
  | recoveryEnd n => exact running_kept (kept.takeRecoveryEnd n).command run
  | busyUntilLapse n => exact running_kept (kept.takeBusyLapse n).command run
  | impactPulse n => exact running_kept (kept.takeImpact n).command run
  | impactWindowEnd n => exact running_kept (kept.takeWindowEnd n).command run
  | coolingTick => exact running_kept kept.takeCoolingTick.command run
  | travelEnd d => exact running_kept (kept.takeTravelEnd d).command run
  | chokeHoldExpiry d => exact running_kept kept.elsewhere.command run
  | rampTick => exact running_kept kept.elsewhere.command run
  | stepRisingEdge => exact running_kept kept.elsewhere.command run
  | stepFallingEdge => exact running_kept kept.elsewhere.command run
  | alignTakesEffect => exact running_kept kept.takeAlign.command run
  | indexPulse => exact running_kept kept.elsewhere.command run
  | swapTimeReached => exact running_kept kept.takeSwapTime.command run
  | supervisionDeadline => exact running_kept kept.takeSupervision.command run
  | holdoverExpiry => exact running_kept kept.takeHoldoverExpiry.command run
  | configTimeout => exact running_kept kept.takeConfigTimeout.command run
  | driverFaultInputChange g a =>
    cases run
    exact kept.elsewhere.command
  | driverFaultFilterExpiry g => exact running_kept (kept.takeDriverFilter g).command run
  | supplyLevelChange l =>
    cases run
    exact kept.elsewhere.command
  | supplyFilterExpiry => exact running_kept kept.takeSupplyFilter.command run
  | lampBlinkPhase => exact running_kept kept.elsewhere.command run
  | powerOn =>
    cases run
    exact ((kept.beginReset .power none).onSup _).command
  | resetLine =>
    cases run
    exact (assertLine_kept s).command
  | resetEnd =>
    cases run
    exact takeResetEnd_kept s
  | resetLineRelease =>
    cases run
    exact (releaseLine_kept s).command

/-! ### The step -/

theorem step_kept {s t : State} (run : step s = .next t) : CommandKept s t := by
  have kept := ScheduleKept.refl s
  unfold step at run
  split at run
  · exact (exec_kept _ run).of_same (kept.elsewhere rfl rfl rfl) rfl rfl rfl
  · split at run
    · exact (exec_kept _ run).of_same (kept.elsewhere rfl rfl rfl) rfl rfl rfl
    · cases run
      exact kept.passFineUnit.command

theorem step_conserves {s t : State} (h : s.Conserves) (run : step s = .next t) : t.Conserves := by
  rw [State.conserves_iff] at h ⊢
  rcases (step_kept run).account with same | settled
  · exact same.trans h
  · exact settled

/-! ### The statements -/

/-- Settles O54: the laws give spaced strikes in order, and what every step keeps of them gives the windows' law. -/
theorem pendingWindowsNeverOverlap : Obligations.PendingWindowsNeverOverlap := by
  intro s t stored pointer schedule windows run
  exact ((step_kept run).spaced (State.ready_of_laws stored pointer schedule windows)).windowLaw

/-- Settles O55: no step lets an accepted strike go out of the account; CLEAR statistics and a reset settle it anew. -/
theorem everyAcceptedStrikeIsAccountedFor : Obligations.EveryAcceptedStrikeIsAccountedFor := by
  refine ⟨fun s => Iff.rfl, ?_, fun s => ?_, fun s es => rfl, fun s t => step_conserves⟩
  · exact (State.conserves_iff _).2 Sch.unaccounted_reset
  · exact (State.conserves_iff _).2 (clearStatistics_unaccounted s)

end Sys2Proof.Machine
end

section
/-! SUPPORT. The laws of a state as one family, and what the updates of single blocks need to keep them. The operations
and commands are then walked through once, for every law of the family. -/
namespace Sys2Proof.Machine

/-! ### The family of laws -/

/-- The second mode may follow the first by the manual's table, but for the ways into LOCKED_OUT and IDLE (R151). -/
def ModeReach (m n : Mode) : Prop :=
  n = m ∨ m ≠ .lockedOut ∧ n ≠ .lockedOut ∧ n ≠ .idle ∧ (n = .config → m = .idle)

theorem ModeReach.trans {a b c : Mode} (h : ModeReach a b) (h' : ModeReach b c) : ModeReach a c := by
  rcases h with rfl | ⟨ha, hb, hi, hc⟩
  · exact h'
  · rcases h' with rfl | ⟨_, hl, hi', hc'⟩
    · exact .inr ⟨ha, hb, hi, hc⟩
    · exact .inr ⟨ha, hl, hi', fun config => absurd (hc' config) hi⟩

/-- The two tables differ in their statistics at most. -/
def SameTables (b t : Tbs) : Prop :=
  t = { b with loadDiscards := t.loadDiscards, swapCancellations := t.swapCancellations }

/-- The laws that every step keeps, and two that a step keeps which takes neither the configuration timer's expiry
nor the end of a reset: the modes that can be reached from one, and the tables of LOCKED_OUT. That no entry is
pending but some given ones is kept by what accepts none, and a mode other than RUN by what asks for SAFE at most. -/
inductive Law where
  | output | queue | lamp | striker | clock | pointer | rotor | stored | schedule
  | modes (start : Mode)
  | frozen (tables : Tbs)
  | among (entries : List Entry)
  | still (mode : Mode)

/-- What is pending is among the given entries, in their order, with the laws that a hand-over needs. -/
structure State.PendingAmong (es : List Entry) (s : State) : Prop where
  stored : s.StoredLaw
  striker : s.StrikerLaw
  entries : s.sch.entries.Sublist es
  onlyInRun : s.mdc.mode ≠ .run → s.sch.entries = []

/-- The state has the law; the law of the schedule with those that it needs. -/
def Law.Holds (s : State) : Law → Prop
  | .output => s.OutputLaw
  | .queue => s.QueueLaw
  | .lamp => s.LampLaw
  | .striker => s.StrikerLaw
  | .clock => s.ClockLaw
  | .pointer => s.PointerLaw
  | .rotor => s.RotorLaw
  | .stored => s.StoredLaw
  | .schedule => s.StoredLaw ∧ s.StrikerLaw ∧ s.ScheduleLaw
  | .modes m => ModeReach m s.mdc.mode
  | .frozen b => s.PointerLaw ∧ s.mdc.mode = .lockedOut ∧ SameTables b s.tbs
  | .among es => s.PendingAmong es
  | .still m => m ≠ .run ∧ s.mdc.mode = m

/-! ### The parts that each law reads -/

theorem State.OutputLaw.of_parts {s t : State} (h : s.OutputLaw)
    (strikers : ∀ n, (t.channel n).output = (s.channel n).output ∧ (t.channel n).drive = (s.channel n).drive ∨
      (t.channel n).output = false ∧ (t.channel n).drive = none)
    (dampers : ∀ d, t.damper d = s.damper d) (rot : t.rot = s.rot) (may : s.MayDrive → t.MayDrive) :
    t.OutputLaw where
  resting rests := by
    obtain ⟨drives, coils, rates, output⟩ := h.resting fun m => rests (may m)
    refine ⟨fun n => ?_, fun d => (dampers d).trans (coils d), rot ▸ rates, rot ▸ output⟩
    obtain ⟨off, none⟩ := drives n
    rcases strikers n with ⟨e, e'⟩ | stopped
    · exact ⟨e.trans off, e'.trans none⟩
    · exact stopped
  strikers n on := by
    rcases strikers n with ⟨e, e'⟩ | ⟨e, _⟩
    · rw [e']; exact h.strikers n (e ▸ on)
    · rw [e] at on; cases on
  coils d := by rw [dampers d]; exact h.coils d

theorem lampPattern_congr {s t : State} (mode : t.mdc.mode = s.mdc.mode)
    (faults : t.svu.faults.map FaultRecord.pair = s.svu.faults.map FaultRecord.pair)
    (classes : t.tbs.supervision = s.tbs.supervision) : t.lampPattern = s.lampPattern := by
  have cls : ∀ k, t.effectiveClass k = s.effectiveClass k := fun k => by
    simp only [State.effectiveClass, State.supervisionItem, classes]
  have any : ∀ p : FaultPair → Bool, (t.svu.faults.any fun r => p r.pair) = s.svu.faults.any fun r => p r.pair :=
    fun p => by
      have := congrArg (fun l => List.any l p) faults
      simpa only [List.any_map, Function.comp_def] using this
  have empty : t.svu.faults.isEmpty = s.svu.faults.isEmpty := by
    have := congrArg List.isEmpty faults
    simpa using this
  unfold State.lampPattern
  simp only [mode, cls, empty]
  rw [any fun p => s.effectiveClass p.kind == .hold || s.effectiveClass p.kind == .recover]

/-- After the lamp has followed, it shows what it has to. -/
theorem State.refreshLamp_law (s : State) : s.refreshLamp.LampLaw := by
  unfold State.LampLaw State.refreshLamp
  split
  · rename_i h; exact h.symm
  · exact (lampPattern_congr rfl rfl rfl).symm

@[simp] theorem State.refreshLamp_faults (s : State) : s.refreshLamp.svu.faults = s.svu.faults := by
  unfold State.refreshLamp; split <;> rfl

theorem State.QueueLaw.of_parts {s t : State} (h : s.QueueLaw) (forward : t.liu.forward = s.liu.forward)
    (relay : t.liu.relay = s.liu.relay) (answer : t.liu.answer = s.liu.answer)
    (faults : (t.svu.faults.map FaultRecord.pair).Sublist (s.svu.faults.map FaultRecord.pair)) : t.QueueLaw where
  forward := forward ▸ h.forward
  marksFirst := forward ▸ h.marksFirst
  relay := relay ▸ h.relay
  answer := answer ▸ h.answer
  faults := by
    have := faults.length_le
    simp only [List.length_map] at this
    exact this.trans h.faults
  onePerPair := h.onePerPair.sublist faults

theorem State.StrikerLaw.of_parts {s t : State} (h : s.StrikerLaw) (records : t.tbs.strikers = s.tbs.strikers)
    (channels : ∀ n, ChannelLaw s.now (s.strikerRecord n) (s.channel n) →
      ChannelLaw t.now (s.strikerRecord n) (t.channel n)) : t.StrikerLaw := by
  have same : ∀ n, t.strikerRecord n = s.strikerRecord n := fun n => by simp only [State.strikerRecord, records]
  exact ⟨fun n => by rw [same]; exact channels n (h.channels n), fun n => by rw [same]; exact h.widths n⟩

theorem State.PendingAmong.of_parts {es : List Entry} {s t : State} (h : s.PendingAmong es) (stored : t.StoredLaw)
    (striker : t.StrikerLaw) (entries : t.sch.entries.Sublist s.sch.entries)
    (mode : t.mdc.mode = s.mdc.mode ∨ t.mdc.mode = .run ∨ t.sch.entries = []) : t.PendingAmong es where
  stored := stored
  striker := striker
  entries := entries.trans h.entries
  onlyInRun out := by
    rcases mode with same | run | empty
    · exact List.eq_nil_of_sublist_nil (h.onlyInRun (same ▸ out) ▸ entries)
    · exact absurd run out
    · exact empty

theorem State.ScheduleLaw.of_parts {s t : State} (h : s.ScheduleLaw)
    (entries : t.sch.entries.Sublist s.sch.entries) (now : t.now = s.now)
    (mode : t.mdc.mode = s.mdc.mode ∨ t.mdc.mode = .run ∨ t.sch.entries = [])
    (setup : t.node.setupMargin = s.node.setupMargin) : t.ScheduleLaw where
  capacity := entries.length_le.trans h.capacity
  order := h.order.sublist entries
  span e he := now ▸ h.span e (entries.subset he)
  onlyInRun out := by
    rcases mode with same | run | empty
    · exact List.eq_nil_of_sublist_nil (h.onlyInRun (same ▸ out) ▸ entries)
    · exact absurd run out
    · exact empty
  setup := setup ▸ h.setup

theorem State.ClockLaw.of_parts {s t : State} (h : s.ClockLaw) (scu : t.scu = s.scu)
    (swap : t.tbs.pendingSwap = s.tbs.pendingSwap ∨ t.tbs.pendingSwap = none) : t.ClockLaw where
  confidence := scu ▸ h.confidence
  slew := scu ▸ h.slew
  unslewed out := by
    rw [scu] at out ⊢
    obtain ⟨slew, none⟩ := h.unslewed out
    refine ⟨slew, ?_⟩
    rcases swap with e | e
    · exact e.trans none
    · exact e
  locked := scu ▸ h.locked
  holdover := scu ▸ h.holdover

theorem State.PointerLaw.of_parts {s t : State} (h : s.PointerLaw)
    (pointer : t.tbs.pointer = s.tbs.pointer ∨ t.tbs.pointer = none)
    (mode : t.tbs.pointer = none ∨ t.mdc.mode = s.mdc.mode ∨ s.mdc.mode = .idle ∧ t.mdc.mode = .config)
    (swap : t.tbs.pendingSwap = s.tbs.pendingSwap ∨ t.tbs.pendingSwap = none)
    (locked : t.mdc.mode = .lockedOut → s.mdc.mode = .lockedOut) : t.PointerLaw where
  pointer p hp := by
    rcases pointer with e | e
    · obtain ⟨writable, inside⟩ := h.pointer p (e ▸ hp)
      refine ⟨?_, inside⟩
      rcases mode with none | same | ⟨idle, config⟩
      · rw [none] at hp; cases hp
      · rwa [same]
      · rw [config]; rfl
    · rw [e] at hp; cases hp
  swap out := by
    rcases swap with e | e
    · exact e.trans (h.swap (locked out))
    · exact e

theorem State.RotorLaw.of_parts {s t : State} (h : s.RotorLaw) (rot : t.rot = s.rot)
    (steps : t.node.stepsPerRev = s.node.stepsPerRev) : t.RotorLaw where
  rates := rot ▸ h.rates
  steps := steps ▸ h.steps
  position := by rw [rot, steps]; exact h.position
  cycle := rot ▸ h.cycle
  output := rot ▸ h.output
  index := rot ▸ h.index

theorem State.StoredLaw.of_parts {s t : State} (h : s.StoredLaw) (strikers : t.tbs.strikers = s.tbs.strikers)
    (dampers : t.tbs.dampers = s.tbs.dampers) (node : t.tbs.node = s.tbs.node)
    (supervision : t.tbs.supervision = s.tbs.supervision) (bankA : t.tbs.bankA = s.tbs.bankA)
    (bankB : t.tbs.bankB = s.tbs.bankB) : t.StoredLaw where
  strikers n := by simp only [State.strikerRecord, strikers]; exact h.strikers n
  dampers d := by simp only [State.damperRecord, dampers]; exact h.dampers d
  node := by simp only [State.node, node]; exact h.node
  supervision i := by rw [supervision]; exact h.supervision i
  notes i := by rw [bankA, bankB]; exact h.notes i
  curves i := by rw [bankA, bankB]; exact h.curves i
  articulations i := by rw [bankA, bankB]; exact h.articulations i

/-! ### Updates of single blocks, for every law -/

/-- What an operation on one channel keeps: it drives on, or its output is off, and its law. -/
structure ChannelKept (now : ShowTime) (r : StrikerRecord) (c d : Channel) : Prop where
  drives : d.output = c.output ∧ d.drive = c.drive ∨ d.output = false ∧ d.drive = none
  law : ChannelLaw now r c → ChannelLaw now r d

theorem ChannelKept.refl (now : ShowTime) (r : StrikerRecord) (c : Channel) : ChannelKept now r c c :=
  ⟨.inl ⟨rfl, rfl⟩, id⟩

namespace Law.Holds

variable {l : Law} {s t : State}

/-- An update that leaves clock, tables, pending entries and mode as they are: the laws that read other parts are
to be given. -/
theorem of_laws (h : l.Holds s) (output : s.OutputLaw → t.OutputLaw) (queue : s.QueueLaw → t.QueueLaw)
    (lamp : s.LampLaw → t.LampLaw) (striker : s.StrikerLaw → t.StrikerLaw) (rotor : s.RotorLaw → t.RotorLaw)
    (scu : t.scu = s.scu) (tbs : t.tbs = s.tbs) (sch : t.sch.entries = s.sch.entries)
    (mode : t.mdc.mode = s.mdc.mode) : l.Holds t := by
  have stored : s.StoredLaw → t.StoredLaw := fun h =>
    h.of_parts (by rw [tbs]) (by rw [tbs]) (by rw [tbs]) (by rw [tbs]) (by rw [tbs]) (by rw [tbs])
  have pointer : s.PointerLaw → t.PointerLaw := fun h =>
    h.of_parts (.inl (by rw [tbs])) (.inr (.inl mode)) (.inl (by rw [tbs])) (mode ▸ id)
  cases l with
  | output => exact output h
  | queue => exact queue h
  | lamp => exact lamp h
  | striker => exact striker h
  | clock => exact State.ClockLaw.of_parts h scu (.inl (by rw [tbs]))
  | pointer => exact pointer h
  | rotor => exact rotor h
  | stored => exact stored h
  | schedule =>
    obtain ⟨hs, hc, hq⟩ := h
    exact ⟨stored hs, striker hc, hq.of_parts (sch ▸ List.Sublist.refl _) (by rw [State.now, State.now, scu])
      (.inl mode) (by rw [State.node, State.node, tbs])⟩
  | modes m => exact show ModeReach m t.mdc.mode from mode ▸ h
  | frozen b =>
    obtain ⟨hp, locked, same⟩ := h
    exact ⟨pointer hp, mode ▸ locked, tbs ▸ same⟩
  | among es =>
    exact State.PendingAmong.of_parts h (stored h.stored) (striker h.striker) (sch ▸ List.Sublist.refl _) (.inl mode)
  | still m => exact ⟨h.1, mode.trans h.2⟩

/-- An update of the channels, of the queues, of the fault list and of parts that no law reads. -/
theorem of_channels (h : l.Holds s)
    (channels : ∀ n, ChannelKept s.now (s.strikerRecord n) (s.channel n) (t.channel n))
    (queue : s.QueueLaw → t.QueueLaw) (lamp : s.LampLaw → t.LampLaw)
    (scu : t.scu = s.scu := by simp) (tbs : t.tbs = s.tbs := by simp)
    (sch : t.sch.entries = s.sch.entries := by simp) (dmc : t.dmc = s.dmc := by simp)
    (rot : t.rot = s.rot := by simp) (band : t.sup.band = s.sup.band := by simp)
    (mode : t.mdc.mode = s.mdc.mode := by simp) (resetting : t.resetting = s.resetting := by simp) :
    l.Holds t := by
  have now : t.now = s.now := by simp only [State.now, scu]
  refine h.of_laws (fun h => ?_) queue lamp (fun h => h.of_parts (by rw [tbs]) fun n => now ▸ (channels n).law)
    (fun h => h.of_parts rot (by rw [State.node, State.node, tbs])) scu tbs sch mode
  refine h.of_parts (fun n => ?_) (fun d => by simp only [State.damper, dmc]) rot ?_
  · rcases (channels n).drives with e | e
    · exact .inl e
    · exact .inr e
  · rw [State.MayDrive, State.MayDrive, mode, band, resetting]; exact id

/-- An update of the queues, of the fault list and of parts that no law reads. -/
theorem aside (h : l.Holds s) (queue : s.QueueLaw → t.QueueLaw) (lamp : s.LampLaw → t.LampLaw)
    (scu : t.scu = s.scu := by simp) (tbs : t.tbs = s.tbs := by simp)
    (sch : t.sch.entries = s.sch.entries := by simp) (stc : t.stc.channels = s.stc.channels := by simp)
    (dmc : t.dmc = s.dmc := by simp) (rot : t.rot = s.rot := by simp)
    (band : t.sup.band = s.sup.band := by simp) (mode : t.mdc.mode = s.mdc.mode := by simp)
    (resetting : t.resetting = s.resetting := by simp) : l.Holds t :=
  h.of_channels (fun n => by simpa only [State.channel, stc] using ChannelKept.refl _ _ _) queue lamp
    scu tbs sch dmc rot band mode resetting

/-- An update of the link's queues. -/
theorem queues (h : l.Holds s) (queue : s.QueueLaw → t.QueueLaw) (svu : t.svu = s.svu := by simp)
    (scu : t.scu = s.scu := by simp) (tbs : t.tbs = s.tbs := by simp)
    (sch : t.sch.entries = s.sch.entries := by simp) (stc : t.stc.channels = s.stc.channels := by simp)
    (dmc : t.dmc = s.dmc := by simp) (rot : t.rot = s.rot := by simp)
    (band : t.sup.band = s.sup.band := by simp) (mode : t.mdc.mode = s.mdc.mode := by simp)
    (resetting : t.resetting = s.resetting := by simp) : l.Holds t :=
  h.aside queue
    (fun h => by
      rw [State.LampLaw, svu]
      exact Eq.trans h (lampPattern_congr mode (by rw [svu]) (by rw [tbs])).symm)
    scu tbs sch stc dmc rot band mode resetting

/-- An update of parts that no law reads. -/
theorem elsewhere (h : l.Holds s) (liu : t.liu = s.liu := by simp) (svu : t.svu = s.svu := by simp)
    (scu : t.scu = s.scu := by simp) (tbs : t.tbs = s.tbs := by simp)
    (sch : t.sch.entries = s.sch.entries := by simp) (stc : t.stc.channels = s.stc.channels := by simp)
    (dmc : t.dmc = s.dmc := by simp) (rot : t.rot = s.rot := by simp)
    (band : t.sup.band = s.sup.band := by simp) (mode : t.mdc.mode = s.mdc.mode := by simp)
    (resetting : t.resetting = s.resetting := by simp) : l.Holds t :=
  h.queues
    (fun h => h.of_parts (by rw [liu]) (by rw [liu]) (by rw [liu]) (by rw [svu]))
    svu scu tbs sch stc dmc rot band mode resetting

end Law.Holds

end Sys2Proof.Machine
end

section
/-! SUPPORT. Every operation of the channels, of the link and of supervision keeps every law of the family. -/
namespace Sys2Proof.Machine

/-! ### One channel -/

namespace ChannelKept

variable {now : ShowTime} {r : StrikerRecord} {c d e : Channel}

theorem trans (h : ChannelKept now r c d) (h' : ChannelKept now r d e) : ChannelKept now r c e where
  drives := by
    rcases h'.drives with ⟨o, v⟩ | stopped
    · rw [o, v]; exact h.drives
    · exact .inr stopped
  law := h'.law ∘ h.law

/-- The values that the law reads stand, the heat is in its range, and the drive goes on or ends. -/
theorem of_fields (drives : d.output = c.output ∧ d.drive = c.drive ∨ d.output = false ∧ d.drive = none)
    (heat : d.heat ≤ c.heat ∨ d.heat ≤ 65535) (trim : d.trim = c.trim)
    (runs : d.missRun = c.missRun ∧ d.outlierRun = c.outlierRun) : ChannelKept now r c d where
  drives := drives
  law h :=
    { heat := heat.elim h.heat.trans' id
      trim := trim ▸ h.trim
      runs := by rw [runs.1, runs.2]; exact h.runs
      drive := by
        rcases drives with ⟨_, same⟩ | ⟨_, none⟩
        · rw [same]; exact h.drive
        · rw [none]; exact fun _ h => nomatch h }

/-- Marks, the recovery, the busy-until and the window changed. -/
theorem same (output : d.output = c.output := by rfl) (drive : d.drive = c.drive := by rfl)
    (heat : d.heat = c.heat := by rfl) (trim : d.trim = c.trim := by rfl)
    (missRun : d.missRun = c.missRun := by rfl) (outlierRun : d.outlierRun = c.outlierRun := by rfl) :
    ChannelKept now r c d :=
  of_fields (.inl ⟨output, drive⟩) (.inl heat.le) trim ⟨missRun, outlierRun⟩

end ChannelKept

theorem heatAfter_le (heat d : Nat) : heatAfter heat d ≤ 65535 := min_le_left _ _

theorem Channel.truncate_kept (now : ShowTime) (r : StrikerRecord) (c : Channel) :
    ChannelKept now r c (c.truncate now r) := by
  unfold Channel.truncate
  split
  · exact .refl _ _ _
  · exact .of_fields (.inr ⟨rfl, rfl⟩) (.inr (heatAfter_le _ _)) rfl ⟨rfl, rfl⟩

theorem Channel.endDrive_kept (now : ShowTime) (r : StrikerRecord) (c : Channel) :
    ChannelKept now r c (c.endDrive r) := by
  unfold Channel.endDrive
  split
  · exact .refl _ _ _
  · exact .of_fields (.inr ⟨rfl, rfl⟩) (.inr (heatAfter_le _ _)) rfl ⟨rfl, rfl⟩

theorem Channel.holdDriver_kept (now : ShowTime) (r : StrikerRecord) (c : Channel) :
    ChannelKept now r c (c.holdDriver now r) := by
  have marked : ChannelKept now r c
      { c with marks := { c.marks with driverFault := true }, recoveryEnd := none } := .same
  unfold Channel.holdDriver
  split
  · exact .refl _ _ _
  · exact marked.trans (Channel.truncate_kept now r _)

theorem Channel.suspend_kept (now : ShowTime) (r : StrikerRecord) (c : Channel) :
    ChannelKept now r c (c.suspend now r) := by
  have marked : ChannelKept now r c { c with suspended := true, recoveryEnd := none } := .same
  unfold Channel.suspend
  split
  · exact .refl _ _ _
  · exact marked.trans (Channel.truncate_kept now r _)

namespace Law.Holds

variable {l : Law} {s : State}

theorem ite {p : Prop} [Decidable p] {t : State} (h : l.Holds s) (h' : l.Holds t) :
    l.Holds (if p then s else t) := by
  split
  · exact h
  · exact h'

/-- An operation folded over a list, if each use of it keeps the law. -/
theorem foldl {α : Type} {f : State → α → State} (kept : ∀ t a, l.Holds t → l.Holds (f t a)) (as : List α)
    (h : l.Holds s) : l.Holds (as.foldl f s) := by
  induction as generalizing s with
  | nil => exact h
  | cons a as ih => exact ih (kept s a h)

theorem mapChannels (h : l.Holds s) (f : Fin 24 → Channel → Channel)
    (kept : ∀ n c, ChannelKept s.now (s.strikerRecord n) c (f n c)) : l.Holds (s.mapChannels f) :=
  h.of_channels (fun n => by simpa using kept n (s.channel n))
    (fun h => h.of_parts rfl rfl rfl (List.Sublist.refl _)) id

theorem setChannel (h : l.Holds s) (n : Fin 24) {c : Channel}
    (kept : ChannelKept s.now (s.strikerRecord n) (s.channel n) c) : l.Holds (s.setChannel n c) := by
  refine h.of_channels (fun m => ?_) (fun h => h.of_parts rfl rfl rfl (List.Sublist.refl _)) id
  by_cases e : m = n
  · subst e; simpa using kept
  · rw [State.setChannel_channel_other e]; exact .refl _ _ _

theorem onPdu (h : l.Holds s) (f : Pdu → Pdu) : l.Holds (s.onPdu f) :=
  h.elsewhere rfl rfl rfl rfl rfl rfl rfl rfl rfl rfl rfl

theorem onAcu (h : l.Holds s) (f : Acu → Acu) : l.Holds (s.onAcu f) :=
  h.elsewhere rfl rfl rfl rfl rfl rfl rfl rfl rfl rfl rfl

/-- An update of the link that leaves its queues as they are. -/
theorem onLiu (h : l.Holds s) (f : Liu → Liu) (forward : (f s.liu).forward = s.liu.forward := by rfl)
    (relay : (f s.liu).relay = s.liu.relay := by rfl) (answer : (f s.liu).answer = s.liu.answer := by rfl) :
    l.Holds (s.onLiu f) :=
  h.queues (fun h => h.of_parts forward relay answer (List.Sublist.refl _)) rfl rfl rfl rfl rfl rfl rfl rfl rfl rfl

/-- An update of a queue within its law. -/
theorem onQueue (h : l.Holds s) (f : Liu → Liu) (queue : s.QueueLaw → (s.onLiu f).QueueLaw) :
    l.Holds (s.onLiu f) :=
  h.queues queue rfl rfl rfl rfl rfl rfl rfl rfl rfl rfl

theorem onCounters (h : l.Holds s) (f : LinkCounters → LinkCounters) : l.Holds (s.onCounters f) := h.onLiu _

/-- An update of supervision that leaves the pairs of the list and the lamp as they are. -/
theorem onSvu (h : l.Holds s) (f : Svu → Svu)
    (faults : (f s.svu).faults.map FaultRecord.pair = s.svu.faults.map FaultRecord.pair := by rfl)
    (lamp : (f s.svu).lamp = s.svu.lamp := by rfl) : l.Holds (s.onSvu f) :=
  h.aside (fun h => h.of_parts rfl rfl rfl (faults ▸ List.Sublist.refl _))
    (fun h => (lamp.trans h).trans (lampPattern_congr (s := s) (t := s.onSvu f) rfl faults rfl).symm)
    rfl rfl rfl rfl rfl rfl rfl rfl rfl

/-- An update of the supply monitor that leaves the band as it is. -/
theorem onSup (h : l.Holds s) (f : Sup → Sup) (band : (f s.sup).band = s.sup.band := by rfl) :
    l.Holds (s.onSup f) :=
  h.elsewhere rfl rfl rfl rfl rfl rfl rfl rfl band rfl rfl

/-- An update of the mode controller that leaves the mode as it is. -/
theorem onMdc (h : l.Holds s) (f : Mdc → Mdc) (mode : (f s.mdc).mode = s.mdc.mode := by rfl) :
    l.Holds (s.onMdc f) :=
  h.elsewhere rfl rfl rfl rfl rfl rfl rfl rfl rfl mode rfl

/-- An update of the schedule's counters. -/
theorem onSchCounts (h : l.Holds s) (f : Sch → Sch) (entries : (f s.sch).entries = s.sch.entries := by rfl) :
    l.Holds (s.onSch f) :=
  h.elsewhere rfl rfl rfl rfl entries rfl rfl rfl rfl rfl rfl

/-! ### Channels -/

theorem truncateAll (h : l.Holds s) : l.Holds s.truncateAll :=
  h.mapChannels _ fun _ c => c.truncate_kept _ _

theorem takeDriveEnd (h : l.Holds s) (n : Fin 24) : l.Holds (s.takeDriveEnd n) := by
  unfold State.takeDriveEnd
  exact ite (h.setChannel n (Channel.endDrive_kept _ _ _)) h

theorem takeRecoveryEnd (h : l.Holds s) (n : Fin 24) : l.Holds (s.takeRecoveryEnd n) := by
  unfold State.takeRecoveryEnd
  exact ite (h.setChannel n .same) h

theorem takeBusyLapse (h : l.Holds s) (n : Fin 24) : l.Holds (s.takeBusyLapse n) := by
  unfold State.takeBusyLapse
  exact ite (h.setChannel n .same) h

theorem onStc (h : l.Holds s) (f : Stc → Stc) (channels : (f s.stc).channels = s.stc.channels := by rfl) :
    l.Holds (s.onStc f) :=
  h.elsewhere rfl rfl rfl rfl rfl channels rfl rfl rfl rfl rfl

theorem takeCoolingTick (h : l.Holds s) : l.Holds s.takeCoolingTick := by
  have cooled : l.Holds (s.mapChannels fun n c => { c with heat := c.heat - (s.strikerRecord n).cooling }) :=
    h.mapChannels _ fun _ _ => .of_fields (.inl ⟨rfl, rfl⟩) (.inl (Nat.sub_le _ _)) rfl ⟨rfl, rfl⟩
  unfold State.takeCoolingTick
  exact ite (cooled.onStc _) h

/-! ### Schedule -/

/-- An update of the schedule that keeps the laws of what is pending. -/
theorem onSch (h : l.Holds s) (f : Sch → Sch)
    (schedule : l = .schedule → s.StoredLaw → s.StrikerLaw → s.ScheduleLaw → (s.onSch f).ScheduleLaw)
    (among : ∀ es, l = .among es → s.PendingAmong es → (s.onSch f).PendingAmong es) : l.Holds (s.onSch f) := by
  cases l with
  | schedule =>
    obtain ⟨hs, hc, hq⟩ := h
    exact ⟨hs.of_parts rfl rfl rfl rfl rfl rfl, hc.of_parts rfl fun _ => id, schedule rfl hs hc hq⟩
  | output => exact State.OutputLaw.of_parts h (fun _ => .inl ⟨rfl, rfl⟩) (fun _ => rfl) rfl id
  | queue => exact State.QueueLaw.of_parts h rfl rfl rfl (List.Sublist.refl _)
  | lamp => exact h
  | striker => exact State.StrikerLaw.of_parts h rfl fun _ => id
  | clock => exact State.ClockLaw.of_parts h rfl (.inl rfl)
  | pointer => exact State.PointerLaw.of_parts h (.inl rfl) (.inr (.inl rfl)) (.inl rfl) id
  | rotor => exact State.RotorLaw.of_parts h rfl rfl
  | stored => exact State.StoredLaw.of_parts h rfl rfl rfl rfl rfl rfl
  | modes m => exact h
  | frozen b =>
    obtain ⟨hp, locked, same⟩ := h
    exact ⟨hp.of_parts (.inl rfl) (.inr (.inl rfl)) (.inl rfl) id, locked, same⟩
  | among es => exact among es rfl h
  | still m => exact h

/-- Entries that leave the schedule, and its counters. -/
theorem thin (h : l.Holds s) (f : Sch → Sch) (entries : (f s.sch).entries.Sublist s.sch.entries) :
    l.Holds (s.onSch f) :=
  h.onSch f (fun _ _ _ h => h.of_parts entries rfl (.inl rfl) rfl) fun _ _ h =>
    h.of_parts (h.stored.of_parts rfl rfl rfl rfl rfl rfl) (h.striker.of_parts rfl fun _ => id) entries (.inl rfl)

theorem flush (h : l.Holds s) (p : Entry → Bool) : l.Holds (s.onSch (Sch.flush p)) :=
  h.thin _ List.filter_sublist

theorem flushSchedule (h : l.Holds s) : l.Holds s.flushSchedule := h.flush _

theorem dropDueDampers (h : l.Holds s) : l.Holds s.dropDueDampers := h.thin _ List.filter_sublist

/-! ### Dampers and rotor -/

/-- An update of the dampers within the law of the outputs. -/
theorem onDmc (h : l.Holds s) (f : Dmc → Dmc) (output : s.OutputLaw → (s.onDmc f).OutputLaw) :
    l.Holds (s.onDmc f) :=
  h.of_laws output (fun h => h.of_parts rfl rfl rfl (List.Sublist.refl _)) id (fun h => h.of_parts rfl fun _ => id)
    (fun h => h.of_parts rfl rfl) rfl rfl rfl rfl

/-- An update of the rotor within its laws. -/
theorem onRot (h : l.Holds s) (f : Rot → Rot) (output : s.OutputLaw → (s.onRot f).OutputLaw)
    (rotor : s.RotorLaw → (s.onRot f).RotorLaw) : l.Holds (s.onRot f) :=
  h.of_laws output (fun h => h.of_parts rfl rfl rfl (List.Sublist.refl _)) id (fun h => h.of_parts rfl fun _ => id)
    rotor rfl rfl rfl rfl

end Law.Holds

/-- Dampers that move within their states, and only while actuators may. -/
theorem State.OutputLaw.onDmc {s : State} (h : s.OutputLaw) (f : Dmc → Dmc)
    (coils : ∀ d, ((s.onDmc f).damper d).coil = true ↔
      ((s.onDmc f).damper d).state = .releasing ∨ ((s.onDmc f).damper d).state = .released)
    (rest : ¬s.MayDrive → ∀ d, (s.onDmc f).damper d = {}) : (s.onDmc f).OutputLaw where
  resting out :=
    { strikers := (h.resting out).strikers, dampers := rest out
      rotorRates := (h.resting out).rotorRates, rotorOutput := (h.resting out).rotorOutput }
  strikers := h.strikers
  coils := coils

/-- A rotor that moves only while actuators may. -/
theorem State.OutputLaw.onRot {s : State} (h : s.OutputLaw) (f : Rot → Rot)
    (rest : ¬s.MayDrive → (f s.rot).target = 0 ∧ (f s.rot).current = 0 ∧ (f s.rot).output = false ∧
      (f s.rot).cycle = none ∧ (f s.rot).align = none) : (s.onRot f).OutputLaw where
  resting out := by
    obtain ⟨target, current, output, cycle, align⟩ := rest out
    exact ⟨(h.resting out).strikers, (h.resting out).dampers, ⟨target, current⟩, output, cycle, align⟩
  strikers := h.strikers
  coils := h.coils

/-- What the rest of a state says of the rotor. -/
theorem State.Resting.rotor {s : State} (h : s.Resting) :
    s.rot.target = 0 ∧ s.rot.current = 0 ∧ s.rot.output = false ∧ s.rot.cycle = none ∧ s.rot.align = none :=
  ⟨h.rotorRates.1, h.rotorRates.2, h.rotorOutput⟩

@[simp] theorem State.forceDampers_damper (s : State) (d : Fin 4) : s.forceDampers.damper d = {} := by
  fin_cases d <;> rfl

theorem State.RotorLaw.stop {s : State} (h : s.RotorLaw) : (s.onRot Rot.stop).RotorLaw where
  rates := ⟨Nat.zero_le _, Nat.zero_le _⟩
  steps := h.steps
  position := h.position
  cycle := ⟨fun _ => rfl, fun _ => rfl⟩
  output := nofun
  index := h.index

namespace Law.Holds

variable {l : Law} {s : State}

theorem forceDampers (h : l.Holds s) : l.Holds s.forceDampers := by
  refine h.onDmc _ fun h => h.onDmc _ (fun d => ?_) fun _ d => s.forceDampers_damper d
  have forced := s.forceDampers_damper d
  unfold State.forceDampers at forced
  simp [forced]

theorem stopRotor (h : l.Holds s) : l.Holds (s.onRot Rot.stop) :=
  h.onRot _ (fun h => h.onRot _ fun _ => ⟨rfl, rfl, rfl, rfl, rfl⟩) State.RotorLaw.stop

theorem stopActuators (h : l.Holds s) : l.Holds s.stopActuators := h.truncateAll.forceDampers.stopRotor

end Law.Holds

end Sys2Proof.Machine
end

section
/-! SUPPORT. Resets, the link and reports keep every law of the family. -/
namespace Sys2Proof.Machine

/-! ### Queues -/

theorem State.QueueLaw.onLiu {s : State} (h : s.QueueLaw) (f : Liu → Liu)
    (forward : (f s.liu).forward.Sublist s.liu.forward)
    (relay : (f s.liu).relay.length ≤ s.liu.relay.length ∨ (f s.liu).relay.length ≤ Config.relayCapacity)
    (answer : (f s.liu).answer.length ≤ s.liu.answer.length ∨ (f s.liu).answer.length ≤ Config.answerCapacity) :
    (s.onLiu f).QueueLaw where
  forward := forward.length_le.trans h.forward
  marksFirst := h.marksFirst.sublist forward
  relay := relay.elim (fun r => r.trans h.relay) id
  answer := answer.elim (fun r => r.trans h.answer) id
  faults := h.faults
  onePerPair := h.onePerPair

/-- A MARK placed after the MARKs and before the other copies. -/
theorem insertMark_marksFirst (m : WaitingMark) {q : List ForwardItem}
    (h : q.Pairwise fun a b => b.isMark = true → a.isMark = true) :
    (insertMark m q).Pairwise fun a b => b.isMark = true → a.isMark = true := by
  have marks : ∀ a ∈ q.takeWhile ForwardItem.isMark, a.isMark = true := fun a ha => List.mem_takeWhile_imp ha
  refine List.pairwise_append.2 ⟨h.sublist (List.takeWhile_sublist _), ?_, fun a ha _ _ _ => marks a ha⟩
  exact List.pairwise_cons.2 ⟨fun _ _ _ => rfl, h.sublist (List.dropWhile_sublist _)⟩

@[simp] theorem length_insertMark (m : WaitingMark) (q : List ForwardItem) :
    (insertMark m q).length = q.length + 1 := by
  have := congrArg List.length (List.takeWhile_append_dropWhile (p := ForwardItem.isMark) (l := q))
  simp only [List.length_append] at this
  simp only [insertMark, List.length_append, List.length_cons]
  omega

theorem dropLastCopy_sublist (q : List ForwardItem) : (dropLastCopy q).Sublist q := by
  have := (List.eraseP_sublist (p := fun i : ForwardItem => !i.isMark) (l := q.reverse)).reverse
  rwa [List.reverse_reverse] at this

theorem length_dropLastCopy {q : List ForwardItem} {i : ForwardItem} (h : lastCopy q = some i) :
    (dropLastCopy q).length + 1 = q.length := by
  have hi := List.mem_of_find?_eq_some h
  have erased := List.length_eraseP_of_mem hi (List.find?_some h)
  have pos := List.length_pos_of_mem hi
  rw [List.length_reverse] at erased pos
  unfold dropLastCopy
  rw [List.length_reverse]
  omega

namespace Law.Holds

variable {l : Law} {s : State}

/-! ### The beginning of a reset -/

/-- Nothing moves: a reset may last. -/
theorem setResetting (h : l.Holds s) (r : Option ResetRun) (rest : s.OutputLaw → s.Resting) :
    l.Holds { s with resetting := r } :=
  h.of_laws
    (fun h =>
      { resting := fun _ => ⟨(rest h).strikers, (rest h).dampers, (rest h).rotorRates, (rest h).rotorOutput⟩
        strikers := h.strikers, coils := h.coils })
    (fun h => h.of_parts rfl rfl rfl (List.Sublist.refl _)) id (fun h => h.of_parts rfl fun _ => id)
    (fun h => h.of_parts rfl rfl) rfl rfl rfl rfl

theorem beginReset (h : l.Holds s) (c : ResetCause) (e : Option Nat) : l.Holds (s.beginReset c e) := by
  have off : l.Holds (s.mapChannels fun _ c => { c with output := false, drive := none }) :=
    h.mapChannels _ fun _ c => .of_fields (.inr ⟨rfl, rfl⟩) (.inl le_rfl) rfl ⟨rfl, rfl⟩
  refine ((off.forceDampers.stopRotor.onSvu (fun v => { v with lampOn := false })).onLiu fun l =>
    { l with sendingDown := none, sendingUp := none }).setResetting _ fun _ => ?_
  refine ⟨fun n => ?_, fun d => ?_, ⟨rfl, rfl⟩, rfl, rfl, rfl⟩
  · have := State.mapChannels_channel (fun _ c => { c with output := false, drive := none }) s n
    exact ⟨congrArg Channel.output this, congrArg Channel.drive this⟩
  · exact State.forceDampers_damper (s.mapChannels fun _ c => { c with output := false, drive := none }) d

theorem handRestart (h : l.Holds s) : l.Holds s.handRestart := h.beginReset _ _

/-! ### The downstream transmitter -/

theorem discardCopy (h : l.Holds s) (i : ForwardItem) : l.Holds (s.discardCopy i) := by
  have counted : l.Holds (s.onCounters fun c => { c with forwardDiscards := c.forwardDiscards + 1 }) :=
    h.onCounters _
  unfold State.discardCopy
  split
  · exact counted.onPdu _
  · exact counted
  · exact counted.handRestart
  · exact counted

theorem startForward (h : l.Holds s) (n : Nat) : l.Holds (s.startForward n) := by
  induction n generalizing s with
  | zero => exact h
  | succ n ih =>
    unfold State.startForward
    split
    · exact h
    · split
      · exact h
      · rename_i i rest head
        have left : l.Holds (s.onLiu fun l => { l with forward := rest }) :=
          h.onQueue _ fun h => h.onLiu _ (head ▸ List.sublist_cons_self i rest) (.inl le_rfl) (.inl le_rfl)
        exact ite (ih (left.discardCopy i)) (left.onLiu _)

theorem kickForward (h : l.Holds s) : l.Holds s.kickForward := h.startForward _

theorem forwardMark (h : l.Holds s) (m : WaitingMark) : l.Holds (s.forwardMark m) := by
  have placed : ∀ q, (q.Sublist s.liu.forward) → q.length < Config.forwardCapacity →
      l.Holds (s.onLiu fun l => { l with forward := insertMark m q }) := fun q sub room =>
    h.onQueue _ fun h =>
      { forward := (length_insertMark m q).trans_le room
        marksFirst := insertMark_marksFirst m (h.marksFirst.sublist sub)
        relay := h.relay, answer := h.answer, faults := h.faults, onePerPair := h.onePerPair }
  unfold State.forwardMark
  split
  · rename_i room
    exact (placed s.liu.forward (List.Sublist.refl _) room).kickForward
  · split
    · exact h.discardCopy _
    · rename_i gone last
      refine (discardCopy ?_ gone).kickForward
      have fewer := length_dropLastCopy last
      exact h.onQueue _ fun h =>
        { forward := by have := h.forward; simp only [State.onLiu_liu, length_insertMark]; omega
          marksFirst := insertMark_marksFirst m (h.marksFirst.sublist (dropLastCopy_sublist _))
          relay := h.relay, answer := h.answer, faults := h.faults, onePerPair := h.onePerPair }

theorem forwardCopy (h : l.Holds s) (f : Frame) (r : Bool) : l.Holds (s.forwardCopy f r) := by
  unfold State.forwardCopy
  split
  · rename_i room
    refine kickForward (h.onQueue _ fun h => ?_)
    refine ⟨?_, ?_, h.relay, h.answer, h.faults, h.onePerPair⟩
    · simp only [State.onLiu_liu, List.length_append, List.length_singleton]; omega
    · refine List.pairwise_append.2 ⟨h.marksFirst, List.pairwise_singleton _ _, fun a _ b hb mark => ?_⟩
      rw [List.mem_singleton.1 hb] at mark
      cases mark
  · exact h.discardCopy _

theorem endSending (h : l.Holds s) (j : SendingJob) : l.Holds (s.endSending j) := by
  have ended : l.Holds (s.onLiu fun l => { l with sendingDown := none }) := h.onLiu _
  unfold State.endSending
  split
  · exact ite (ended.onPdu _) ended
  · exact ended.onPdu _
  · exact ended.handRestart
  · exact ended

theorem takeDownBoundary (h : l.Holds s) : l.Holds s.takeDownBoundary := by
  unfold State.takeDownBoundary
  split
  · exact h.kickForward
  · exact (h.endSending _).kickForward

/-! ### The return lane -/

theorem startReturn (h : l.Holds s) : l.Holds s.startReturn := by
  unfold State.startReturn
  refine h.onQueue _ fun h => h.onLiu _ ?_ (.inl ?_) (.inl ?_) <;> (split <;> simp_all)

theorem kickReturn (h : l.Holds s) : l.Holds s.kickReturn := by
  unfold State.kickReturn
  exact ite h.startReturn h

theorem queueAnswer (h : l.Holds s) (f : Frame) (g : LinkCounters → LinkCounters) :
    l.Holds (s.queueAnswer f g) := by
  unfold State.queueAnswer
  split
  · rename_i room
    refine kickReturn (h.onQueue _ fun h => h.onLiu _ (List.Sublist.refl _) (.inl le_rfl) (.inr ?_))
    simp only [List.length_append, List.length_singleton]
    omega
  · exact h.onCounters _

theorem answer (h : l.Holds s) (subject : Byte) (content : State → List Byte) :
    l.Holds (s.answer subject content) := h.queueAnswer _ _

theorem holdProbe (h : l.Holds s) (o n : Byte) : l.Holds (s.holdProbe o n) := (h.onLiu _).kickReturn

/-! ### The mode -/

/-- An update of the fault list and of the lamp, the lamp then as it has to be. -/
theorem refreshed {t : State} (h : l.Holds s) (queue : s.QueueLaw → t.QueueLaw) (lamp : t.LampLaw)
    (scu : t.scu = s.scu := by simp) (tbs : t.tbs = s.tbs := by simp)
    (sch : t.sch.entries = s.sch.entries := by simp) (stc : t.stc.channels = s.stc.channels := by simp)
    (dmc : t.dmc = s.dmc := by simp) (rot : t.rot = s.rot := by simp)
    (band : t.sup.band = s.sup.band := by simp) (mode : t.mdc.mode = s.mdc.mode := by simp)
    (resetting : t.resetting = s.resetting := by simp) : l.Holds t :=
  h.aside queue (fun _ => lamp) scu tbs sch stc dmc rot band mode resetting

theorem setFaults (h : l.Holds s) {fs : List FaultRecord} (fewer : fs.Sublist s.svu.faults) :
    l.Holds (s.setFaults fs) :=
  h.refreshed
    (fun h => h.of_parts (by simp) (by simp) (by simp) (by simpa [State.setFaults] using fewer.map _))
    (State.refreshLamp_law _)

end Law.Holds

@[simp] theorem State.setMode_mode (m : Mode) (s : State) : (s.setMode m).mdc.mode = m := by simp [State.setMode]
@[simp] theorem State.setMode_tbs (m : Mode) (s : State) : (s.setMode m).tbs = { s.tbs with pointer := none } := by
  simp [State.setMode]
@[simp] theorem State.setMode_faults (m : Mode) (s : State) : (s.setMode m).svu.faults = s.svu.faults := by
  simp [State.setMode]

/-- Actuators that rest do so in every mode. -/
theorem State.OutputLaw.setMode {s : State} (h : s.OutputLaw) (m : Mode) (rest : m ≠ .run → s.Resting) :
    (s.setMode m).OutputLaw where
  resting out := by
    have resting : s.Resting := by
      by_cases run : m = .run
      · refine h.resting fun may => out ?_
        obtain ⟨_, band, awake⟩ := may
        exact ⟨(State.setMode_mode m s).trans run, by simpa using band, by simpa using awake⟩
      · exact rest run
    obtain ⟨drives, coils, rates, output⟩ := resting
    exact ⟨by simpa [State.channel] using drives, by simpa [State.damper] using coils, by simpa using rates,
      by simpa using output⟩
  strikers := by simpa [State.channel] using h.strikers
  coils := by simpa [State.damper] using h.coils

namespace Law.Holds

variable {l : Law} {s : State}

/-- A mode is entered: RUN, or another one with nothing moving and nothing pending. -/
theorem setMode (h : l.Holds s) (m : Mode)
    (reach : ModeReach s.mdc.mode m ∧ m ≠ .lockedOut ∨ (∀ a, l ≠ .modes a) ∧ ∀ b, l ≠ .frozen b)
    (swap : m = .lockedOut → s.tbs.pendingSwap = none) (moving : (∀ n, l ≠ .still n) ∨ s.mdc.mode = .run)
    (rest : m ≠ .run → s.OutputLaw → s.Resting)
    (empty : m ≠ .run → (s.mdc.mode ≠ .run → s.sch.entries = []) → s.sch.entries = []) : l.Holds (s.setMode m) := by
  have stored : s.StoredLaw → (s.setMode m).StoredLaw := fun h =>
    h.of_parts (by simp) (by simp) (by simp) (by simp) (by simp) (by simp)
  have striker : s.StrikerLaw → (s.setMode m).StrikerLaw := fun h =>
    h.of_parts (by simp) fun n => by simp [State.channel, State.now]
  cases l with
  | output => exact State.OutputLaw.setMode h m fun run => rest run h
  | queue => exact State.QueueLaw.of_parts h (by simp) (by simp) (by simp) (by simp)
  | lamp => exact State.refreshLamp_law _
  | striker => exact striker h
  | clock => exact State.ClockLaw.of_parts h (by simp) (.inl (by simp))
  | pointer => exact ⟨fun p hp => by simp at hp, fun locked => by simpa using swap (by simpa using locked)⟩
  | rotor => exact State.RotorLaw.of_parts h (by simp) (by simp [State.node])
  | stored => exact stored h
  | schedule =>
    obtain ⟨hs, hc, hq⟩ := h
    refine ⟨stored hs, striker hc, hq.of_parts (by simp) (by simp [State.now]) (.inr ?_) (by simp [State.node])⟩
    by_cases run : m = .run
    · exact .inl ((State.setMode_mode m s).trans run)
    · exact .inr (by simpa using empty run hq.onlyInRun)
  | modes a =>
    rcases reach with ⟨reach, _⟩ | ⟨other, _⟩
    · rw [Law.Holds, State.setMode_mode]
      exact ModeReach.trans h reach
    · exact absurd rfl (other a)
  | frozen b =>
    obtain ⟨_, locked, _⟩ := h
    rcases reach with ⟨same | ⟨unlocked, _⟩, open_⟩ | ⟨_, other⟩
    · exact absurd (same.trans locked) open_
    · exact absurd locked unlocked
    · exact absurd rfl (other b)
  | among es =>
    refine State.PendingAmong.of_parts h (stored h.stored) (striker h.striker) (by simp) (.inr ?_)
    by_cases run : m = .run
    · exact .inl ((State.setMode_mode m s).trans run)
    · exact .inr (by simpa using empty run h.onlyInRun)
  | still n =>
    rcases moving with other | run
    · exact absurd rfl (other n)
    · exact absurd (h.2.symm.trans run) h.1

end Law.Holds

end Sys2Proof.Machine
end

section
/-! SUPPORT. Reports and what contains one keep every law of the family. -/
namespace Sys2Proof.Machine

/-! ### Entry into SAFE -/

@[simp] theorem Channel.truncate_drive (now : ShowTime) (r : StrikerRecord) (c : Channel) :
    (c.truncate now r).drive = none := by
  unfold Channel.truncate
  split
  · assumption
  · rfl

@[simp] theorem State.truncateAll_channel (s : State) (n : Fin 24) :
    s.truncateAll.channel n = (s.channel n).truncate s.now (s.strikerRecord n) := by
  unfold State.truncateAll; rw [State.mapChannels_channel]

/-- An output is on only while a drive runs, so actuators that have stopped rest. -/
theorem State.OutputLaw.resting_of_stopped {s t : State}
    (h : ∀ n, (t.channel n).output = true → (t.channel n).drive ≠ none)
    (stc : t.stc = s.stopActuators.stc) (dmc : t.dmc = s.stopActuators.dmc) (rot : t.rot = s.stopActuators.rot) :
    t.Resting where
  strikers n := by
    have stopped : (t.channel n).drive = none := by
      have := congrArg Channel.drive (s.truncateAll_channel n)
      rw [Channel.truncate_drive] at this
      rw [State.channel, stc]
      exact this
    exact ⟨by simpa [stopped] using h n, stopped⟩
  dampers d := by rw [State.damper, dmc]; exact s.truncateAll.forceDampers_damper d
  rotorRates := by rw [rot]; exact ⟨rfl, rfl⟩
  rotorOutput := by rw [rot]; exact ⟨rfl, rfl, rfl⟩

/-! ### Reports of the kinds that only warn -/

theorem effectiveClass_of_warn {k : FaultKind} (h : k.allowed = [.warn]) (s : State) :
    s.effectiveClass k = .warn := by
  simp only [State.effectiveClass, FaultKind.effective, h, List.mem_singleton, ite_eq_right_iff, imp_self]

/-- A report of a kind that R135 allows no class but WARN is stored, and that is all. -/
theorem report_of_warn {p : FaultPair} (h : p.kind.allowed = [.warn]) (s : State) :
    s.report p = s.storeReport p := by
  unfold State.report State.react
  rw [effectiveClass_of_warn h]

theorem map_pair_update (p : FaultPair) (f : FaultRecord → FaultRecord) (same : ∀ r, (f r).pair = r.pair)
    (l : List FaultRecord) :
    (l.map fun r => if r.pair = p then f r else r).map FaultRecord.pair = l.map FaultRecord.pair := by
  rw [List.map_map]
  refine List.map_congr_left fun r _ => ?_
  simp only [Function.comp]
  split
  · exact same r
  · rfl

namespace Law.Holds

variable {l : Law} {s : State}

theorem enterSafe (h : l.Holds s) (run : s.mdc.mode = .run) : l.Holds s.enterSafe := by
  have stopped := h.stopActuators.dropDueDampers.flushSchedule
  refine stopped.setMode .safe (.inl ⟨?_, nofun⟩) nofun (.inr (by simpa using run)) (fun _ out => ?_) fun _ _ =>
    flushSchedule_entries _
  · simp [run, ModeReach]
  · exact State.OutputLaw.resting_of_stopped (s := s) out.strikers (by simp) (by simp) (by simp)

theorem requestSafe (h : l.Holds s) : l.Holds s.requestSafe := by
  unfold State.requestSafe
  split
  · exact h.enterSafe ‹_›
  · exact h

/-! ### Marks -/

theorem holdPair (h : l.Holds s) (p : FaultPair) : l.Holds (s.holdPair p) := by
  unfold State.holdPair
  split
  · exact h.setChannel _ .same
  · exact h.setChannel _ .same
  · refine h.mapChannels _ fun n c => ?_
    split
    · exact Channel.holdDriver_kept _ _ _
    · exact .refl _ _ _
  all_goals exact h

theorem suspendGroup (h : l.Holds s) (p : FaultPair) : l.Holds (s.suspendGroup p) := by
  unfold State.suspendGroup
  split
  · refine h.mapChannels _ fun n c => ?_
    split
    · exact Channel.suspend_kept _ _ _
    · exact .refl _ _ _
  all_goals exact h

theorem unsuspendGroup (h : l.Holds s) (g : Fin 3) : l.Holds (s.unsuspendGroup g) := by
  refine h.mapChannels _ fun n c => ?_
  split
  · exact .same
  · exact .refl _ _ _

theorem releasePair (h : l.Holds s) (p : FaultPair) : l.Holds (s.releasePair p) := by
  refine h.mapChannels _ fun n c => ?_
  split
  case h_4 => exact .refl _ _ _
  all_goals
    split
    · exact .same
    · exact .refl _ _ _

theorem releaseRemoved (h : l.Holds s) (p : FaultPair) : l.Holds (s.releaseRemoved p) := by
  unfold State.releaseRemoved
  exact ite h (h.releasePair p)

theorem releaseAll (h : l.Holds s) : l.Holds s.releaseAll := h.mapChannels _ fun _ _ => .same

/-! ### Reports -/

theorem react (h : l.Holds s) (p : FaultPair) : l.Holds (s.react p) := by
  unfold State.react
  split
  · exact h
  · exact h.holdPair p
  · exact h.suspendGroup p
  · exact h.requestSafe

theorem appendRecord (h : l.Holds s) (r : FaultRecord) (room : s.svu.faults.length < Config.faultCapacity)
    (new : s.svu.has r.pair = false) : l.Holds (s.appendRecord r) := by
  have stored : l.Holds
      (s.onSvu fun v => { v with faults := v.faults ++ [r], first := some (v.first.getD r) }).refreshLamp := by
    refine h.refreshed (fun h => ?_) (State.refreshLamp_law _)
    refine ⟨by simpa using h.forward, by simpa using h.marksFirst, by simpa using h.relay, by simpa using h.answer,
      ?_, ?_⟩
    · simpa using room
    · have fresh : ∀ x ∈ s.svu.faults, x.pair ≠ r.pair := by simpa [Svu.has] using new
      rw [State.refreshLamp_faults, State.onSvu_svu, List.map_append, List.nodup_append]
      refine ⟨h.onePerPair, by simp, fun a ha b hb => ?_⟩
      obtain ⟨x, hx, rfl⟩ := List.mem_map.1 ha
      rw [List.map_singleton, List.mem_singleton] at hb
      exact hb ▸ fresh x hx
  unfold State.appendRecord State.sendNotice
  exact ite (stored.queueAnswer _ _) stored

theorem storeReport (h : l.Holds s) (p : FaultPair) : l.Holds (s.storeReport p) := by
  unfold State.storeReport
  split
  · exact h.onSvu _ (map_pair_update p (FaultRecord.again s.now) (fun _ => rfl) _)
  · rename_i new
    split
    · rename_i room
      exact h.appendRecord _ room (Bool.eq_false_iff.2 new)
    · exact h.onSvu _

theorem report (h : l.Holds s) (p : FaultPair) : l.Holds (s.report p) := (h.storeReport p).react p

theorem deactivate (h : l.Holds s) (p : FaultPair) : l.Holds (s.deactivate p) :=
  h.onSvu _ (map_pair_update p (fun r => { r with active := false }) (fun _ => rfl) _)

theorem reportEnd (h : l.Holds s) (p : FaultPair) : l.Holds (s.reportEnd p) := by
  have ended := h.deactivate p
  unfold State.reportEnd
  split
  · exact ended.unsuspendGroup _
  all_goals exact ended

theorem readd (h : l.Holds s) (ps : List FaultPair) : l.Holds (s.readd ps) :=
  foldl (fun _ p h => h.report p) ps h

theorem clearPair (h : l.Holds s) (p : FaultPair) : l.Holds (s.clearPair p) := by
  have removed := (h.setFaults (List.filter_sublist (p := fun r => r.pair != p))).releaseRemoved p
  unfold State.clearPair
  exact ite (ite (removed.report p) removed) h

theorem clearNamed (h : l.Holds s) (kind subject : Byte) : l.Holds (s.clearNamed kind subject) := by
  unfold State.clearNamed
  split
  · exact h
  · exact h.clearPair _

theorem clearAll (h : l.Holds s) : l.Holds s.clearAll :=
  have emptied := (h.setFaults (List.nil_sublist _)).onSvu fun v => { v with overflow := 0 }
  emptied.releaseAll.readd _

theorem clearAfterCut (h : l.Holds s) : l.Holds s.clearAfterCut :=
  (foldl (fun _ g h => h.releaseRemoved (.driverFault g)) allGroups (h.setFaults List.filter_sublist)).readd _

/-! ### Impacts -/

/-- A run starts again at the third one. -/
theorem nextRun_le (r : Nat) : (if 3 ≤ r + 1 then 0 else r + 1) ≤ 2 := by split <;> omega

/-- A window closed as a miss or as an outlier: the runs stay below 3 and one of them is 0 (R75 to R77). -/
theorem setRuns (h : l.Holds s) (n : Fin 24) {c : Channel}
    (drives : c.output = (s.channel n).output ∧ c.drive = (s.channel n).drive)
    (heat : c.heat = (s.channel n).heat)
    (trim : ((s.channel n).trim = c.trim ∨ -512 ≤ c.trim ∧ c.trim ≤ 511))
    (runs : c.missRun ≤ 2 ∧ c.outlierRun ≤ 2 ∧ (c.missRun = 0 ∨ c.outlierRun = 0)) : l.Holds (s.setChannel n c) :=
  h.setChannel n
    { drives := .inl drives
      law := fun h =>
        ⟨heat ▸ h.heat, trim.elim (fun e => e ▸ h.trim) id, runs, by rw [drives.2]; exact h.drive⟩ }

theorem closeAsMiss (h : l.Holds s) (n : Fin 24) : l.Holds (s.closeAsMiss n) := by
  have closed := h.setRuns n
    (c := { s.channel n with
            window := none, outlierRun := 0
            missRun := if 3 ≤ (s.channel n).missRun + 1 then 0 else (s.channel n).missRun + 1 })
    ⟨rfl, rfl⟩ rfl (.inl rfl) ⟨nextRun_le _, Nat.zero_le _, .inr rfl⟩
  exact ite (closed.report _) closed

theorem takeWindowEnd (h : l.Holds s) (n : Fin 24) : l.Holds (s.takeWindowEnd n) := by
  unfold State.takeWindowEnd
  exact ite (h.closeAsMiss n) h

theorem goodImpact (h : l.Holds s) (n : Fin 24) (e : Int) : l.Holds (s.goodImpact n e) := by
  refine h.setRuns n ⟨rfl, rfl⟩ rfl ?_ (by simp)
  unfold adaptedTrim clampInt
  split
  · right; dsimp only; split <;> [skip; split] <;> omega
  · exact .inl rfl

theorem outlierImpact (h : l.Holds s) (n : Fin 24) : l.Holds (s.outlierImpact n) := by
  have closed := h.setRuns n
    (c := { s.channel n with
            window := none, missRun := 0
            outlierRun := if 3 ≤ (s.channel n).outlierRun + 1 then 0 else (s.channel n).outlierRun + 1 })
    ⟨rfl, rfl⟩ rfl (.inl rfl) ⟨Nat.zero_le _, nextRun_le _, .inl rfl⟩
  exact ite (closed.report _) closed

theorem strayImpact (h : l.Holds s) : l.Holds s.strayImpact := h.onStc _

theorem takeImpact (h : l.Holds s) (n : Fin 24) : l.Holds (s.takeImpact n) := by
  unfold State.takeImpact
  dsimp only
  split
  · split
    · exact h.strayImpact
    · exact ite (h.goodImpact n _) (ite (h.outlierImpact n) h.strayImpact)
  · exact h

/-! ### Supply and driver faults -/

theorem evaluateSupply (h : l.Holds s) : l.Holds s.evaluateSupply := by
  unfold State.evaluateSupply
  refine h.onSup _ ?_
  split
  · rfl
  · split
    · split <;> rfl
    · rfl

theorem enterCut (h : l.Holds s) : l.Holds s.enterCut := h.stopActuators.onSup _

/-- What a change of band brings, once the band stands. -/
theorem bandEffects (h : l.Holds s) (old new : Band) : l.Holds (s.bandEffects old new) := by
  unfold State.bandEffects
  split
  · exact h.report _
  · exact ((h.report _).report _).enterCut
  · exact (h.report _).enterCut
  · exact h.reportEnd _
  · exact (h.reportEnd _).clearAfterCut
  · exact ((h.reportEnd _).reportEnd _).clearAfterCut
  all_goals exact h

/-- A new band stands: it is no CUT, or was so before, or the law is not that of the outputs. -/
theorem onBand (h : l.Holds s) (f : Sup → Sup)
    (fed : l = .output → (f s.sup).band = .cut → s.sup.band = .cut) : l.Holds (s.onSup f) := by
  cases l with
  | output =>
    refine State.OutputLaw.of_parts h (fun _ => .inl ⟨rfl, rfl⟩) (fun _ => rfl) rfl fun ⟨run, band, awake⟩ => ?_
    exact ⟨run, fun cut => band (fed rfl cut), awake⟩
  | queue => exact State.QueueLaw.of_parts h rfl rfl rfl (List.Sublist.refl _)
  | lamp => exact h
  | striker => exact State.StrikerLaw.of_parts h rfl fun _ => id
  | clock => exact State.ClockLaw.of_parts h rfl (.inl rfl)
  | pointer => exact State.PointerLaw.of_parts h (.inl rfl) (.inr (.inl rfl)) (.inl rfl) id
  | rotor => exact State.RotorLaw.of_parts h rfl rfl
  | stored => exact State.StoredLaw.of_parts h rfl rfl rfl rfl rfl rfl
  | schedule =>
    obtain ⟨hs, hc, hq⟩ := h
    exact ⟨hs.of_parts rfl rfl rfl rfl rfl rfl, hc.of_parts rfl fun _ => id,
      hq.of_parts (List.Sublist.refl _) rfl (.inl rfl) rfl⟩
  | modes m => exact h
  | frozen b =>
    obtain ⟨hp, locked, same⟩ := h
    exact ⟨hp.of_parts (.inl rfl) (.inr (.inl rfl)) (.inl rfl) id, locked, same⟩
  | among es =>
    exact State.PendingAmong.of_parts h (h.stored.of_parts rfl rfl rfl rfl rfl rfl) (h.striker.of_parts rfl fun _ => id)
      (List.Sublist.refl _) (.inl rfl)
  | still m => exact h

end Law.Holds

/-- Entry into CUT stops every actuator, whatever stands of the band before. -/
theorem State.OutputLaw.enterCut {s t : State} (h : s.OutputLaw) (stc : t.stc = s.stc) :
    t.enterCut.OutputLaw := by
  have on : ∀ n, (t.enterCut.channel n).output = true → (t.enterCut.channel n).drive ≠ none := by
    intro n
    have same : t.channel n = s.channel n := by simp only [State.channel, stc]
    have stopped : t.enterCut.channel n = (s.channel n).truncate t.now (t.strikerRecord n) := by
      rw [← same, ← State.truncateAll_channel]; rfl
    have kept := (s.channel n).truncate_kept t.now (t.strikerRecord n)
    rw [stopped]
    rcases kept.drives with ⟨e, e'⟩ | ⟨off, _⟩
    · rw [e, e']; exact h.strikers n
    · rw [off]; exact nofun
  exact
    { resting := fun _ => State.OutputLaw.resting_of_stopped (s := t) on rfl rfl rfl
      strikers := on
      coils := fun d => by
        have : t.enterCut.damper d = {} := t.truncateAll.forceDampers_damper d
        simp [this] }

/-- A warning of the supply does not reach the channels. -/
theorem report_supply_stc {p : FaultPair} (h : p = .supplyLow ∨ p = .supplyCut) (s : State) :
    (s.report p).stc = s.stc := by
  have warn : p.kind.allowed = [.warn] := by rcases h with rfl | rfl <;> rfl
  rw [report_of_warn warn]
  simp

namespace Law.Holds

variable {l : Law} {s : State}

theorem takeBand (h : l.Holds s) (b : Band) : l.Holds (s.takeBand b) := by
  refine evaluateSupply ?_
  by_cases cutting : l = .output ∧ b = .cut ∧ s.sup.band ≠ .cut
  · obtain ⟨rfl, rfl, fed⟩ := cutting
    unfold State.bandEffects
    cases hb : s.sup.band with
    | normal =>
      refine State.OutputLaw.enterCut (s := s) h ?_
      rw [report_supply_stc (.inr rfl), report_supply_stc (.inl rfl)]; rfl
    | low =>
      refine State.OutputLaw.enterCut (s := s) h ?_
      rw [report_supply_stc (.inr rfl)]; rfl
    | cut => exact absurd hb fed
  · refine bandEffects (h.onBand _ fun output cut => ?_) _ _
    by_contra fed
    exact cutting ⟨output, cut, fed⟩

theorem takeSupplyFilter (h : l.Holds s) : l.Holds s.takeSupplyFilter := by
  unfold State.takeSupplyFilter
  split
  · exact h
  · exact ite (h.takeBand _) h

theorem setSupplyLevel (h : l.Holds s) (level : Byte) : l.Holds (s.setSupplyLevel level) := by
  have level := h.onSup fun p => { p with level := level }
  unfold State.setSupplyLevel
  exact ite level level.evaluateSupply

theorem setDriverInput (h : l.Holds s) (g : Fin 3) (a : Bool) : l.Holds (s.setDriverInput g a) := by
  unfold State.setDriverInput
  exact ite h (h.onSvu _)

theorem takeDriverFilter (h : l.Holds s) (g : Fin 3) : l.Holds (s.takeDriverFilter g) := by
  have turned := h.onSvu fun v => { v with driverFault := v.driverFault.set g v.driverInput[g] }
  unfold State.takeDriverFilter
  exact ite (ite (turned.report _) (turned.reportEnd _)) h

theorem takeBlink (h : l.Holds s) : l.Holds s.takeBlink := by
  unfold State.takeBlink
  exact ite (h.onSvu _) h

/-! ### Reception and probes -/

theorem leakFell (h : l.Holds s) (p : Port) : l.Holds (s.leakFell p) := by
  unfold State.leakFell
  split
  · exact ite ((h.onLiu _).reportEnd _) h
  · exact ite ((h.onLiu _).reportEnd _) h

theorem leakRose (h : l.Holds s) (p : Port) : l.Holds (s.leakRose p) := by
  unfold State.leakRose
  split
  · exact ite ((h.onLiu _).report _) h
  · exact ite ((h.onLiu _).report _) h

theorem countGood (h : l.Holds s) (p : Port) : l.Holds (s.countGood p) := by
  refine (h.onLiu _ ?_ ?_ ?_).leakFell p <;> cases p <;> rfl

theorem countBad (h : l.Holds s) (p : Port) : l.Holds (s.countBad p) := by
  refine (h.onLiu _ ?_ ?_ ?_).leakRose p <;> cases p <;> rfl

theorem relay (h : l.Holds s) (f : Frame) : l.Holds (s.relay f) := by
  unfold State.relay
  split
  · rename_i room
    refine kickReturn (h.onQueue _ fun h => h.onLiu _ (List.Sublist.refl _) (.inr ?_) (.inl le_rfl))
    simp only [List.length_append, List.length_singleton]
    omega
  · exact (h.onCounters _).report _

theorem probeReturned (h : l.Holds s) (number : Byte) (hold : Half) : l.Holds (s.probeReturned number hold) := by
  unfold State.probeReturned
  split
  · exact h
  · exact ite (ite ((h.onPdu _).reportEnd _) (h.onPdu _)) h

theorem takeReturnedProbe (h : l.Holds s) (number : Byte) (hold : Half) :
    l.Holds (s.takeReturnedProbe number hold) := (h.countGood _).probeReturned _ _

theorem takeRelayFrame (h : l.Holds s) (kind : Byte) (payload : List Byte) :
    l.Holds (s.takeRelayFrame kind payload) := by
  unfold State.takeRelayFrame
  split
  · split
    · exact h.takeReturnedProbe _ _
    · exact (h.countGood _).onCounters _
  · exact (h.countGood _).relay _

theorem takeProbeSend (h : l.Holds s) : l.Holds s.takeProbeSend := by
  unfold State.takeProbeSend
  exact ite ((h.onLiu _).onPdu _) h

theorem takeProbeWindow (h : l.Holds s) : l.Holds s.takeProbeWindow := by
  unfold State.takeProbeWindow
  exact ite (h.onPdu _) h

theorem missSample (h : l.Holds s) : l.Holds s.missSample := by
  unfold State.missSample
  exact ite (ite ((h.onPdu _).onPdu _) (((h.onPdu _).onPdu _).report _)) (h.onPdu _)

theorem takeProbeTimeout (h : l.Holds s) : l.Holds s.takeProbeTimeout := by
  unfold State.takeProbeTimeout
  exact ite h.missSample h

theorem becomeChainEnd (h : l.Holds s) : l.Holds s.becomeChainEnd := by
  unfold State.becomeChainEnd
  exact ite ((h.onPdu _).reportEnd _) (h.onPdu _)

end Law.Holds

end Sys2Proof.Machine
end

section
/-! SUPPORT. Dampers, rotor, dues and hand-overs keep every law of the family. -/
namespace Sys2Proof.Machine

/-! ### One damper -/

/-- The coil is on exactly while the damper is releasing or released. -/
def Damper.CoilFollows (d : Damper) : Prop := d.coil = true ↔ d.state = .releasing ∨ d.state = .released

theorem Damper.coilFollows_travel (now : ShowTime) (r : DamperRecord) (a : DamperAction) (choke handed : Bool)
    (d : Damper) : (d.travel now r a choke handed).CoilFollows := by
  cases a <;> simp [Damper.travel, Damper.CoilFollows]

theorem Damper.CoilFollows.arrive {d : Damper} (h : d.CoilFollows) (t : ShowTime) (r : DamperRecord) :
    (d.arrive t r).CoilFollows := by
  unfold Damper.CoilFollows at h
  unfold Damper.arrive Damper.CoilFollows
  cases state : d.state <;> simpa [state] using h

theorem Damper.CoilFollows.handle {d : Damper} (h : d.CoilFollows) (now : ShowTime) (r : DamperRecord)
    (a : DamperAction) (choke : Bool) : (d.handle now r a choke).CoilFollows := by
  unfold Damper.handle
  split
  · split
    · exact h
    · exact h
  · exact Damper.coilFollows_travel _ _ _ _ _ _

theorem Damper.CoilFollows.moveBy {d : Damper} (h : d.CoilFollows) (k : Int) : (d.moveBy k).CoilFollows := h

/-- A damper changed with its coil following, and only while actuators may move or to rest. -/
theorem State.OutputLaw.setDamper {s : State} (h : s.OutputLaw) (d : Fin 4) {v : Damper} (coil : v.CoilFollows)
    (rest : ¬s.MayDrive → v = {}) : (s.setDamper d v).OutputLaw := by
  have read : ∀ e, (s.setDamper d v).damper e = if e = d then v else s.damper e := fun e => by
    split
    · rename_i same; subst same; exact State.setDamper_damper_same _ _ _
    · exact State.setDamper_damper_other ‹_› _ _
  refine h.onDmc _ (fun e => ?_) fun out e => (read e).trans ?_
  · have coils := h.coils e
    rw [← State.setDamper, read e]
    split
    · exact coil
    · exact coils
  · split
    · exact rest out
    · exact (h.resting out).dampers e

/-! ### The rotor -/

theorem rampedRate_le {current target : Nat} (hc : current ≤ 1500) (ht : target ≤ 1500) (rampStep : Nat) :
    rampedRate current target rampStep ≤ 1500 := by
  unfold rampedRate
  split
  · omega
  · split <;> omega

/-- What the rotor's law says of the rotor itself. -/
structure Rot.Lawful (steps : Nat) (r : Rot) : Prop where
  rates : r.target ≤ 1500 ∧ r.current ≤ 1500
  position : r.position < steps
  cycle : r.cycle = none ↔ r.current = 0
  output : r.output = true → r.cycle ≠ none
  index : r.lastIndexError ≤ 999 ∧ r.indexErrors ≤ 65535

/-- A rotor changed as it may be has its law again. -/
theorem State.RotorLaw.onRot {s : State} (h : s.RotorLaw) (f : Rot → Rot)
    (kept : s.rot.Lawful s.node.stepsPerRev → (f s.rot).Lawful s.node.stepsPerRev) : (s.onRot f).RotorLaw := by
  obtain ⟨rates, position, cycle, output, index⟩ := kept ⟨h.rates, h.position, h.cycle, h.output, h.index⟩
  exact ⟨rates, h.steps, position, cycle, output, index⟩

namespace Rot.Lawful

variable {steps : Nat} {r : Rot}

theorem risingEdge (h : r.Lawful steps) (turning : r.current ≠ 0) (t : ShowTime) :
    (r.risingEdge t steps).Lawful steps where
  rates := h.rates
  position := Nat.mod_lt _ (Nat.zero_lt_of_lt h.position)
  cycle := ⟨nofun, fun still => absurd still turning⟩
  output _ := nofun
  index := h.index

/-- An edge from rest: the cycle begins with the rate. -/
theorem risingEdge_of_rest (h : r.Lawful steps) {rate : Nat} (le : rate ≤ 1500) (turning : rate ≠ 0) (t : ShowTime) :
    ({ r with current := rate }.risingEdge t steps).Lawful steps where
  rates := ⟨h.rates.1, le⟩
  position := Nat.mod_lt _ (Nat.zero_lt_of_lt h.position)
  cycle := ⟨nofun, fun still => absurd still turning⟩
  output _ := nofun
  index := h.index

theorem ramp {n : NodeRecord} (h : r.Lawful n.stepsPerRev) (now : ShowTime) :
    (r.ramp now n).Lawful n.stepsPerRev := by
  have rate := rampedRate_le h.rates.2 h.rates.1 n.rampStep
  unfold Rot.ramp
  simp only []
  split
  · rename_i start
    exact h.risingEdge_of_rest rate start.2 now
  · split
    · rename_i stop
      exact ⟨⟨h.rates.1, rate⟩, h.position, ⟨fun _ => stop.2, fun _ => rfl⟩, nofun, h.index⟩
    · have still : r.current = 0 ↔ rampedRate r.current r.target n.rampStep = 0 := by tauto
      exact ⟨⟨h.rates.1, rate⟩, h.position, h.cycle.trans still, h.output, h.index⟩

end Rot.Lawful

namespace Law.Holds

variable {l : Law} {s : State}

/-! ### Dampers -/

theorem setDamper (h : l.Holds s) (d : Fin 4) {v : Damper} (output : s.OutputLaw → (s.setDamper d v).OutputLaw) :
    l.Holds (s.setDamper d v) :=
  h.onDmc _ output

theorem takeTravelEnd (h : l.Holds s) (d : Fin 4) : l.Holds (s.takeTravelEnd d) := by
  unfold State.takeTravelEnd
  split
  · exact h
  · rename_i t running
    have arrived := h.setDamper d (v := (s.damper d).arrive t (s.damperRecord d)) fun h =>
      h.setDamper d (Damper.CoilFollows.arrive (h.coils d) _ _) fun out => by
        rw [(h.resting out).dampers d] at running; cases running
    exact ite (ite (arrived.onSchCounts _) arrived) h

theorem takeHoldExpiry (h : l.Holds s) (d : Fin 4) : l.Holds (s.takeHoldExpiry d) := by
  unfold State.takeHoldExpiry
  split
  · exact h
  · rename_i t running
    refine ite (h.setDamper d fun h => ?_) h
    refine h.setDamper d (Damper.coilFollows_travel _ _ _ _ _ _) fun out => ?_
    rw [(h.resting out).dampers d] at running; cases running

theorem handDamper (h : l.Holds s) (awake : s.resetting = none) (d : Fin 4) (a : DamperAction) (choke : Bool) :
    l.Holds (s.handDamper d a choke) := by
  unfold State.handDamper
  split
  · exact h.onSchCounts _
  · rename_i may
    have handled := h.setDamper d (v := (s.damper d).handle s.now (s.damperRecord d) a choke) fun h =>
      h.setDamper d (Damper.CoilFollows.handle (h.coils d) _ _ _ _) fun out =>
        absurd ⟨by_contra fun m => may (.inl m), fun b => may (.inr (.inl b)), awake⟩ out
    exact ite (handled.onSchCounts _) (handled.takeTravelEnd d)

/-! ### Rotor -/

theorem setRate (h : l.Holds s) (awake : s.resetting = none) (rate : Nat) : l.Holds (s.setRate rate) := by
  unfold State.setRate
  split
  · rename_i takes
    simp only [State.rotorTakes, Bool.and_eq_true, beq_iff_eq, bne_iff_ne] at takes
    refine h.onRot _ (fun h => h.onRot _ fun out => absurd ⟨takes.1.2, takes.2, awake⟩ out) fun h =>
      h.onRot _ fun r => ?_
    exact ⟨⟨min_le_left _ _, r.rates.2⟩, r.position, r.cycle, r.output, r.index⟩
  · exact h

theorem setAlign (h : l.Holds s) (awake : s.resetting = none) (t : ShowTime) : l.Holds (s.setAlign t) := by
  unfold State.setAlign
  split
  · rename_i takes
    simp only [State.rotorTakes, Bool.and_eq_true, beq_iff_eq, bne_iff_ne] at takes
    refine h.onRot _ (fun h => h.onRot _ fun out => absurd ⟨takes.1.1.2, takes.1.2, awake⟩ out) fun h =>
      h.onRot _ fun r => ?_
    exact ⟨r.rates, r.position, r.cycle, r.output, r.index⟩
  · exact h

theorem takeRampTick (h : l.Holds s) : l.Holds s.takeRampTick := by
  unfold State.takeRampTick
  refine ite (h.onRot _ (fun h => h.onRot _ fun out => ?_) fun h => h.onRot _ fun r => ?_) h
  · obtain ⟨target, current⟩ := (h.resting out).rotorRates
    simpa [Rot.ramp, rampedRate, target, current] using (h.resting out).rotorOutput
  · obtain ⟨rates, position, cycle, output, index⟩ := r.ramp s.now
    exact ⟨rates, position, cycle, output, index⟩

theorem takeRisingEdge (h : l.Holds s) : l.Holds s.takeRisingEdge := by
  unfold State.takeRisingEdge
  split
  · exact h
  · rename_i c turning
    refine ite (h.onRot _ (fun h => h.onRot _ fun out => ?_) fun h => h.onRot _ fun r => ?_) h
    · rw [(h.resting out).rotorOutput.2.1] at turning; cases turning
    · refine r.risingEdge (fun still => ?_) _
      rw [r.cycle.2 still] at turning; cases turning

theorem takeFallingEdge (h : l.Holds s) : l.Holds s.takeFallingEdge := by
  unfold State.takeFallingEdge
  split
  · exact h
  · rename_i c turning
    refine ite (h.onRot _ (fun h => h.onRot _ fun out => ?_) fun h => h.onRot _ fun r => ?_) h
    · rw [(h.resting out).rotorOutput.2.1] at turning; cases turning
    · refine ⟨r.rates, r.position, ⟨nofun, fun still => ?_⟩, nofun, r.index⟩
      rw [r.cycle.2 still] at turning; cases turning

theorem takeAlign (h : l.Holds s) : l.Holds s.takeAlign := by
  unfold State.takeAlign
  split
  · rename_i fallen
    refine h.onRot _ (fun h => h.onRot _ fun out => ?_) fun h => h.onRot _ fun r => ?_
    · rw [State.alignReached, (h.resting out).rotorOutput.2.2] at fallen; cases fallen
    · split
      · exact ⟨r.rates, r.position, r.cycle, r.output, r.index⟩
      · rename_i turning
        exact ⟨r.rates, r.position, ⟨nofun, fun still => absurd still turning⟩, nofun, r.index⟩
  · exact h

theorem takeIndexPulse (h : l.Holds s) : l.Holds s.takeIndexPulse := by
  unfold State.takeIndexPulse
  refine ite (h.onRot _ (fun h => h.onRot _ fun out => ?_) fun h => ?_) h
  · exact (h.resting out).rotor
  · have inside := h.position
    have most := h.steps.2
    exact h.onRot _ fun r => ⟨r.rates, h.steps.1, r.cycle, r.output, by dsimp only; omega, min_le_left _ _⟩

end Law.Holds

/-! ### Drives -/

/-- A drive starts only while actuators may move. -/
theorem State.OutputLaw.startedChannel {s : State} (h : s.OutputLaw) (may : s.MayDrive) (n : Fin 24)
    (action : ShowTime) (w : Nat) : (s.setChannel n (s.startedChannel n action w)).OutputLaw where
  resting out := absurd may out
  strikers m := by
    by_cases e : m = n
    · subst e; rw [State.setChannel_channel_same]; exact fun _ => nofun
    · rw [State.setChannel_channel_other e]; exact h.strikers m
  coils := h.coils

/-- A drive that starts now has its whole width to run. -/
theorem State.StrikerLaw.startedChannel {s : State} (h : s.StrikerLaw) (n : Fin 24) (action : ShowTime) {w : Nat}
    (hw : w ≤ (s.strikerRecord n).wMax) : (s.setChannel n (s.startedChannel n action w)).StrikerLaw := by
  refine h.of_parts rfl fun m kept => ?_
  by_cases e : m = n
  · subst e
    rw [State.setChannel_channel_same]
    refine ⟨kept.heat, kept.trim, kept.runs, fun d hd => ?_⟩
    cases hd
    have widest := h.widths m
    have ends : signedDiff (plusGrains s.now w) s.now = w := signedDiff_plusGrains _ _ (by omega)
    exact ⟨hw, ends.symm ▸ Int.natCast_nonneg w, ends.le⟩
  · rw [State.setChannel_channel_other e]; exact kept

theorem finalWidth_le (r : StrikerRecord) (heat ceiling w : Nat) : finalWidth r heat ceiling w ≤ r.wMax := by
  have : r.wMinEff ≤ r.wMax := min_le_right _ _
  unfold finalWidth clampNat
  split
  · exact this
  · split <;> omega

/-- A strike that no check of R60 drops finds RUN and a fed supply. -/
theorem strikeCheck_none {n : Fin 24} {s : State} (h : s.strikeCheck n = none) :
    s.mdc.mode = .run ∧ s.sup.band ≠ .cut := by
  unfold State.strikeCheck at h
  simp only [] at h
  split at h
  · cases h
  · split at h
    · cases h
    · rename_i run fed
      exact ⟨not_not.1 run, fed⟩

namespace Law.Holds

variable {l : Law} {s : State}

theorem startedChannel (h : l.Holds s) (may : s.MayDrive) (n : Fin 24) (action : ShowTime) {w : Nat}
    (hw : w ≤ (s.strikerRecord n).wMax) : l.Holds (s.setChannel n (s.startedChannel n action w)) :=
  h.of_laws (fun h => h.startedChannel may n action w) (fun h => h.of_parts rfl rfl rfl (List.Sublist.refl _)) id
    (fun h => h.startedChannel n action hw) (fun h => h.of_parts rfl rfl) rfl rfl rfl rfl

theorem startDrive (h : l.Holds s) (may : s.MayDrive) (n : Fin 24) (action expected : ShowTime) {w : Nat}
    (hw : w ≤ (s.strikerRecord n).wMax) : l.Holds (s.startDrive n action expected w) := by
  have started := h.startedChannel may n action hw
  have closed := ite (p := (s.channel n).window.isSome = true) (started.closeAsMiss n) started
  unfold State.startDrive
  exact (ite (closed.setChannel n .same) closed).takeWindowEnd n

theorem handStrike (h : l.Holds s) (awake : s.resetting = none) (n : Fin 24) (action expected : ShowTime) (w : Nat) :
    l.Holds (s.handStrike n action expected w) := by
  have ready := (h.takeDriveEnd n).takeRecoveryEnd n
  unfold State.handStrike
  simp only []
  split
  · exact ready.onSchCounts _
  · rename_i passed
    obtain ⟨run, fed⟩ := strikeCheck_none passed
    exact startDrive (ready.onSchCounts _) ⟨run, fed, by simpa using awake⟩ n action expected (finalWidth_le _ _ _ _)

theorem handOver (h : l.Holds s) (awake : s.resetting = none) (e : Entry) : l.Holds (s.handOver e) := by
  unfold State.handOver
  simp only []
  split
  · exact ite (h.onSchCounts _) (h.handStrike awake _ _ _ _)
  · exact ite (h.onSchCounts _) (h.handDamper awake _ _ _)

theorem dueLoop (h : l.Holds s) (awake : s.resetting = none) (k : Nat) : l.Holds (s.dueLoop k) := by
  induction k generalizing s with
  | zero => exact h
  | succ k ih =>
    unfold State.dueLoop
    split
    · exact h
    · rename_i e rest head
      refine ite (ih (handOver ?_ ?_ e) ?_) h
      · exact h.thin _ (head ▸ List.sublist_cons_self e rest)
      · exact awake
      · simpa using awake

theorem takeDue (h : l.Holds s) (awake : s.resetting = none) : l.Holds s.takeDue := h.dueLoop awake _

end Law.Holds

end Sys2Proof.Machine
end

section
/-! SUPPORT. The show clock: steps, time marks, supervision, holdover, slew grains. -/
namespace Sys2Proof.Machine

/-! ### Swaps -/

namespace Law.Holds

variable {l : Law} {s : State}

/-- A swap takes effect outside LOCKED_OUT, where none is pending. -/
theorem swap (h : l.Holds s) (live : s.tbs.pendingSwap ≠ none ∨ s.mdc.mode ≠ .lockedOut) :
    l.Holds (s.onTbs Tbs.swap) := by
  have pointer : s.PointerLaw → (s.onTbs Tbs.swap).PointerLaw := fun h =>
    { pointer := fun p hp => h.pointer p (Option.filter_eq_some_iff.1 hp).1, swap := fun _ => rfl }
  have stored : s.StoredLaw → (s.onTbs Tbs.swap).StoredLaw := fun h => h.of_parts rfl rfl rfl rfl rfl rfl
  have striker : s.StrikerLaw → (s.onTbs Tbs.swap).StrikerLaw := fun h => h.of_parts rfl fun _ => id
  cases l with
  | output => exact State.OutputLaw.of_parts h (fun _ => .inl ⟨rfl, rfl⟩) (fun _ => rfl) rfl id
  | queue => exact State.QueueLaw.of_parts h rfl rfl rfl (List.Sublist.refl _)
  | lamp => exact h
  | striker => exact striker h
  | clock => exact State.ClockLaw.of_parts h rfl (.inr rfl)
  | pointer => exact pointer h
  | rotor => exact State.RotorLaw.of_parts h rfl rfl
  | stored => exact stored h
  | schedule =>
    obtain ⟨hs, hc, hq⟩ := h
    exact ⟨stored hs, striker hc, hq.of_parts (List.Sublist.refl _) rfl (.inl rfl) rfl⟩
  | modes m => exact h
  | frozen b =>
    obtain ⟨hp, locked, same⟩ := h
    exact live.elim (absurd (hp.swap locked)) (absurd locked)
  | among es =>
    exact State.PendingAmong.of_parts h (stored h.stored) (striker h.striker) (List.Sublist.refl _) (.inl rfl)
  | still m => exact h

theorem takeSwapTime (h : l.Holds s) : l.Holds s.takeSwapTime := by
  unfold State.takeSwapTime
  split
  · rename_i fallen
    refine h.swap (.inl fun none => ?_)
    rw [State.swapReached, none] at fallen
    cases fallen
  · exact h

/-- An update of the clock that leaves the show time as it is. -/
theorem onScu (h : l.Holds s) (other : l ≠ .clock) (f : Scu → Scu) (now : (f s.scu).now = s.scu.now := by rfl) :
    l.Holds (s.onScu f) := by
  have striker : s.StrikerLaw → (s.onScu f).StrikerLaw := fun h =>
    h.of_parts rfl fun n kept => by rw [State.now, State.onScu_scu, now]; exact kept
  cases l with
  | output => exact State.OutputLaw.of_parts h (fun _ => .inl ⟨rfl, rfl⟩) (fun _ => rfl) rfl id
  | queue => exact State.QueueLaw.of_parts h rfl rfl rfl (List.Sublist.refl _)
  | lamp => exact h
  | striker => exact striker h
  | clock => exact absurd rfl other
  | pointer => exact State.PointerLaw.of_parts h (.inl rfl) (.inr (.inl rfl)) (.inl rfl) id
  | rotor => exact State.RotorLaw.of_parts h rfl rfl
  | stored => exact State.StoredLaw.of_parts h rfl rfl rfl rfl rfl rfl
  | schedule =>
    obtain ⟨hs, hc, hq⟩ := h
    exact ⟨hs.of_parts rfl rfl rfl rfl rfl rfl, striker hc, hq.of_parts (List.Sublist.refl _) now (.inl rfl) rfl⟩
  | modes m => exact h
  | frozen b =>
    obtain ⟨hp, locked, same⟩ := h
    exact ⟨hp.of_parts (.inl rfl) (.inr (.inl rfl)) (.inl rfl) id, locked, same⟩
  | among es =>
    exact State.PendingAmong.of_parts h (h.stored.of_parts rfl rfl rfl rfl rfl rfl) (striker h.striker)
      (List.Sublist.refl _) (.inl rfl)
  | still m => exact h

theorem enterSync (h : l.Holds s) (other : l ≠ .clock) (x : SyncState) : l.Holds (s.enterSync x) := by
  have entered := h.onScu other fun c => { c with sync := x }
  unfold State.enterSync
  simp only []
  split
  · rename_i pending
    exact entered.swap (.inl (Option.isSome_iff_ne_none.1 pending.2))
  · exact entered

end Law.Holds

/-! ### Steps (R108) -/

theorem endTime_shiftBy (k : Int) (d : Drive) :
    ({ d with start := shiftBy k d.start } : Drive).endTime = shiftBy k d.endTime := by
  simp only [Drive.endTime, plusGrains, shiftBy]
  exact add_right_comm _ _ _

theorem signedDiff_shiftBy_self {k : Int} (h : k.natAbs ≤ Config.horizon) (now : ShowTime) :
    signedDiff (shiftBy k now) now = k := by
  have e : now + BitVec.ofInt 32 k - now = BitVec.ofInt 32 k := by rw [BitVec.add_comm]; simp
  simp only [signedDiff, shiftBy, e]
  unfold Config.horizon at h
  show (BitVec.ofInt 32 k).toInt = k
  rw [BitVec.toInt_ofInt]
  apply Int.bmod_eq_of_le <;> omega

/-- After a step of k a time within the span lies k nearer, or is after now no longer. -/
theorem signedDiff_stepped {k : Int} (h : k.natAbs ≤ Config.horizon) {now t : ShowTime} (span : InSpan now t) :
    signedDiff t (shiftBy k now) = signedDiff t now - k := by
  have step := signedDiff_shiftBy_self h now
  simp only [InSpan, Config.horizon] at h span
  rw [signedDiff_eq_sub t (shiftBy k now) now (by omega) (by omega), step]

/-- The parts that the laws read after a step of k has moved the running times and set the clock. -/
def State.moved (k : Int) (s : State) : State := (s.moveTimes k).onScu (Scu.stepped k)

theorem State.moved_channel (k : Int) (s : State) (n : Fin 24) :
    (s.moved k).channel n = (s.channel n).moveBy k s.now :=
  State.mapChannels_channel (fun _ c => c.moveBy k s.now) s n

theorem State.moved_damper (k : Int) (s : State) (d : Fin 4) : (s.moved k).damper d = (s.damper d).moveBy k :=
  State.mapDampers_damper (Damper.moveBy k) (s.mapChannels fun _ c => c.moveBy k s.now) d

theorem State.OutputLaw.moved {s : State} (h : s.OutputLaw) (k : Int) : (s.moved k).OutputLaw where
  resting out := by
    obtain ⟨drives, dampers, rates, output, cycle, align⟩ := h.resting fun may => out ⟨may.1, may.2.1, may.2.2⟩
    refine ⟨fun n => ?_, fun d => ?_, rates, output, ?_, align⟩
    · obtain ⟨off, none⟩ := drives n
      rw [s.moved_channel]
      exact ⟨off, by rw [Channel.moveBy, none]; rfl⟩
    · rw [s.moved_damper, dampers d]; rfl
    · show s.rot.cycle.map _ = none
      rw [cycle]; rfl
  strikers n on := by
    rw [s.moved_channel] at on ⊢
    exact fun none => h.strikers n on (Option.map_eq_none_iff.1 none)
  coils d := by rw [s.moved_damper]; exact h.coils d

/-- A drive moves with the clock: the time that remains to it is kept (R66). -/
theorem State.StrikerLaw.moved {s : State} (h : s.StrikerLaw) (k : Int) : (s.moved k).StrikerLaw := by
  refine h.of_parts (by simp [State.moved]) fun n kept => ?_
  rw [s.moved_channel]
  refine ⟨kept.heat, kept.trim, kept.runs, fun d hd => ?_⟩
  obtain ⟨v, hv, rfl⟩ := Option.map_eq_some_iff.1 hd
  obtain ⟨width, low, high⟩ := kept.drive v hv
  have remains : signedDiff ({ v with start := shiftBy k v.start } : Drive).endTime (s.moved k).now
      = signedDiff v.endTime s.now := by rw [endTime_shiftBy]; exact signedDiff_shiftBy k _ _
  exact ⟨width, by rw [remains]; exact low, by rw [remains]; exact high⟩

theorem State.RotorLaw.moved {s : State} (h : s.RotorLaw) (k : Int) : (s.moved k).RotorLaw where
  rates := h.rates
  steps := by simpa [State.moved, State.node] using h.steps
  position := by simpa [State.moved, State.node, State.moveTimes, Rot.moveBy] using h.position
  cycle := Option.map_eq_none_iff.trans h.cycle
  output on none := h.output on (Option.map_eq_none_iff.1 none)
  index := h.index

/-- A step clears the slew, so it needs of the clock's law only what does not speak of it. -/
theorem State.clockLaw_moved {s : State} (k : Int) (confidence : s.scu.confidence ≤ 8)
    (swap : s.scu.sync.notLocked = true → s.tbs.pendingSwap = none)
    (locked : s.scu.sync.notLocked = false → 1 ≤ s.scu.confidence ∧ s.scu.lastMark ≠ none)
    (holdover : s.scu.sync = .holdover ↔ s.scu.holdoverStart ≠ none) : (s.moved k).ClockLaw where
  confidence := confidence
  slew := by simp [State.moved, Scu.stepped]
  unslewed out := ⟨by simp [State.moved, Scu.stepped], swap out⟩
  locked := locked
  holdover := holdover

namespace Law.Holds

variable {l : Law} {s : State}

theorem moved (h : l.Holds s) (other : l ≠ .schedule) (k : Int) : l.Holds (s.moved k) := by
  cases l with
  | output => exact State.OutputLaw.moved h k
  | queue => exact State.QueueLaw.of_parts h rfl rfl rfl (List.Sublist.refl _)
  | lamp => exact h
  | striker => exact State.StrikerLaw.moved h k
  | clock => exact State.clockLaw_moved k h.confidence (fun out => (h.unslewed out).2) h.locked h.holdover
  | pointer => exact State.PointerLaw.of_parts h (.inl rfl) (.inr (.inl rfl)) (.inl rfl) id
  | rotor => exact State.RotorLaw.moved h k
  | stored => exact State.StoredLaw.of_parts h rfl rfl rfl rfl rfl rfl
  | schedule => exact absurd rfl other
  | modes m => exact h
  | frozen b =>
    obtain ⟨hp, locked, same⟩ := h
    exact ⟨hp.of_parts (.inl rfl) (.inr (.inl rfl)) (.inl rfl) id, locked, same⟩
  | among es =>
    exact State.PendingAmong.of_parts h (h.stored.of_parts rfl rfl rfl rfl rfl rfl) (h.striker.moved k)
      (List.Sublist.refl _) (.inl rfl)
  | still m => exact h

theorem scheduleStep (h : l.Holds s) (awake : s.resetting = none) (k : Int) : l.Holds (s.scheduleStep k) := by
  unfold State.scheduleStep
  exact ite h.flushSchedule (ite (h.takeDue awake) (h.flush _))

theorem takeWindowEnds (h : l.Holds s) : l.Holds (allStrikers.foldl (fun s n => s.takeWindowEnd n) s) :=
  foldl (fun _ n h => h.takeWindowEnd n) _ h

/-- What a step does once the running times are moved and the clock is set. -/
theorem stepClock_of_moved (awake : s.resetting = none) {k : Int} (moving : k ≠ 0) (moved : l.Holds (s.moved k)) :
    l.Holds (s.stepClock k) := by
  unfold State.stepClock
  rw [if_neg moving]
  exact (moved.scheduleStep (by simpa [State.moved] using awake) k).takeWindowEnds.takeAlign.takeSwapTime

end Law.Holds

/-! ### The pending entries after a step (R47, R48) -/

/-- What the schedule's law says of the pending entries themselves. -/
structure InOrder (now : ShowTime) (es : List Entry) : Prop where
  capacity : es.length ≤ Config.scheduleCapacity
  order : es.Pairwise fun a b => signedDiff a.action b.action ≤ 0
  span : ∀ e ∈ es, InSpan now e.action

theorem State.ScheduleLaw.inOrder {s : State} (h : s.ScheduleLaw) : InOrder s.now s.sch.entries :=
  ⟨h.capacity, h.order, h.span⟩

theorem InOrder.sublist {now : ShowTime} {es fs : List Entry} (h : InOrder now es) (fewer : fs.Sublist es) :
    InOrder now fs :=
  ⟨fewer.length_le.trans h.capacity, h.order.sublist fewer, fun e he => h.span e (fewer.subset he)⟩

theorem InOrder.nil (now : ShowTime) : InOrder now [] := ⟨Nat.zero_le _, List.Pairwise.nil, nofun⟩

/-- The clock moved: entries that it has not passed and that it leaves within the horizon. -/
theorem InOrder.at {now : ShowTime} {es : List Entry} (h : InOrder now es) {t : ShowTime}
    (span : ∀ e ∈ es, InSpan t e.action) : InOrder t es :=
  ⟨h.capacity, h.order, span⟩

theorem State.StoredLaw.setupMargin_le {s : State} (h : s.StoredLaw) : s.node.setupMargin ≤ 1000 := by
  rw [← h.node]; exact min_le_left _ _

/-- Entries among some that are in order have the schedule's law. -/
theorem State.PendingAmong.scheduleLaw {s : State} {es : List Entry} (h : s.PendingAmong es)
    (inOrder : InOrder s.now es) : s.ScheduleLaw where
  capacity := (inOrder.sublist h.entries).capacity
  order := (inOrder.sublist h.entries).order
  span := (inOrder.sublist h.entries).span
  onlyInRun := h.onlyInRun
  setup := h.stored.setupMargin_le

theorem State.ScheduleLaw.among {s : State} (stored : s.StoredLaw) (striker : s.StrikerLaw) (h : s.ScheduleLaw) :
    s.PendingAmong s.sch.entries :=
  ⟨stored, striker, List.Sublist.refl _, h.onlyInRun⟩

theorem State.PendingAmong.self {s : State} {es : List Entry} (h : s.PendingAmong es) :
    s.PendingAmong s.sch.entries :=
  ⟨h.stored, h.striker, List.Sublist.refl _, h.onlyInRun⟩

/-- Once every due entry is handed over, none that is left is due (R43). -/
theorem dueLoop_headReached {s : State} {es : List Entry} (h : s.PendingAmong es) (awake : s.resetting = none)
    {k : Nat} (bound : s.sch.entries.length ≤ k) : (s.dueLoop k).headReached = false := by
  induction k generalizing s es with
  | zero =>
    rw [State.dueLoop, State.headReached, List.length_eq_zero_iff.1 (Nat.le_zero.1 bound)]
  | succ k ih =>
    unfold State.dueLoop
    split
    · rename_i empty
      rw [State.headReached, empty]
    · rename_i e rest head
      split
      · have fewer : rest.Sublist s.sch.entries := head ▸ List.sublist_cons_self e rest
        have rested : (s.onSch fun q => { q with entries := rest }).PendingAmong rest :=
          (Law.Holds.thin (l := .among es) h (fun q => { q with entries := rest }) fewer).self
        have handed : (State.handOver e (s.onSch fun q => { q with entries := rest })).PendingAmong rest :=
          Law.Holds.handOver (l := .among rest) rested awake e
        have shorter := handed.entries.length_le
        rw [head, List.length_cons] at bound
        exact ih handed (by simpa using awake) (by omega)
      · rename_i later
        rw [State.headReached, head]
        exact Bool.eq_false_iff.2 later

theorem takeDue_headReached {s : State} {es : List Entry} (h : s.PendingAmong es) (awake : s.resetting = none) :
    s.takeDue.headReached = false :=
  dueLoop_headReached h awake le_rfl

/-- Entries in order whose first one is not due are all after now. -/
theorem all_after {s : State} {from_ : ShowTime} (inOrder : InOrder from_ s.sch.entries)
    {k : Int} (near : k.natAbs ≤ Config.horizon) (now : s.now = shiftBy k from_) (head : s.headReached = false) :
    ∀ e ∈ s.sch.entries, 0 < signedDiff e.action s.now := by
  intro e he
  unfold State.headReached at head
  cases entries : s.sch.entries with
  | nil => rw [entries] at he; cases he
  | cons x xs =>
    rw [entries] at he head inOrder
    have first : 0 < signedDiff x.action s.now := by simpa [reached] using head
    rcases List.mem_cons.1 he with rfl | later
    · exact first
    · have order := (List.pairwise_cons.1 inOrder.order).1 e later
      have hx := inOrder.span x List.mem_cons_self
      have he := inOrder.span e he
      rw [signedDiff_inSpan hx he] at order
      rw [now, signedDiff_stepped near hx] at first
      rw [now, signedDiff_stepped near he]
      omega

/-- A step leaves in the schedule what lies within the horizon of the new time, and nothing before it. -/
theorem scheduleStep_inOrder {s : State} {from_ : ShowTime} (h : s.PendingAmong s.sch.entries)
    (awake : s.resetting = none) (inOrder : InOrder from_ s.sch.entries) {k : Int}
    (now : s.now = shiftBy k from_) : InOrder s.now (s.scheduleStep k).sch.entries := by
  unfold State.scheduleStep
  split
  · rw [flushSchedule_entries]
    exact .nil _
  · rename_i far
    have near : k.natAbs ≤ Config.horizon := not_lt.1 far
    split
    · have due : s.takeDue.PendingAmong s.sch.entries := Law.Holds.takeDue (l := .among s.sch.entries) h awake
      have left := inOrder.sublist due.entries
      have same : s.takeDue.now = s.now := by simp [State.now]
      have after := all_after left near (same.trans now) (takeDue_headReached h awake)
      rw [now]
      refine left.at fun e he => ?_
      have e_after := after e he
      rw [same, now] at e_after
      have span := left.span e he
      rw [signedDiff_stepped near span] at e_after
      rw [InSpan, signedDiff_stepped near span]
      simp only [InSpan] at span
      omega
    · have left := inOrder.sublist (List.filter_sublist (l := s.sch.entries)
        (p := fun e => !decide ((Config.horizon : Int) < signedDiff e.action s.now)))
      rw [now] at left ⊢
      refine left.at fun e he => ?_
      have inside : signedDiff e.action (shiftBy k from_) ≤ Config.horizon := by
        simpa [now] using (List.mem_filter.1 he).2
      have span := left.span e he
      rw [signedDiff_stepped near span] at inside
      rw [InSpan, signedDiff_stepped near span]
      simp only [InSpan] at span
      omega

namespace Law.Holds

variable {l : Law} {s : State}

theorem stepClock_zero (h : l.Holds s) : l.Holds (s.stepClock 0) := by
  have still : Scu.stepped 0 s.scu = { s.scu with slew := 0 } := by simp [Scu.stepped, shiftBy]
  show l.Holds (s.onScu (Scu.stepped 0))
  cases l with
  | clock =>
    exact ⟨h.confidence, by simp [still], fun out => ⟨by rw [State.onScu_scu, still], (h.unslewed out).2⟩,
      h.locked, h.holdover⟩
  | _ => exact h.onScu nofun _ (by rw [still])

theorem stepClock (h : l.Holds s) (awake : s.resetting = none) (k : Int) : l.Holds (s.stepClock k) := by
  by_cases still : k = 0
  · subst still; exact h.stepClock_zero
  · by_cases pending : l = .schedule
    · subst pending
      obtain ⟨stored, striker, schedule⟩ := h
      have moved : (s.moved k).PendingAmong s.sch.entries :=
        Law.Holds.moved (l := .among s.sch.entries) (schedule.among stored striker) nofun k
      have awake' : (s.moved k).resetting = none := by simpa [State.moved] using awake
      have inOrder := scheduleStep_inOrder moved awake' schedule.inOrder rfl
      have step : ((s.moved k).scheduleStep k).PendingAmong s.sch.entries :=
        Law.Holds.scheduleStep (l := .among s.sch.entries) moved awake' k
      have rest : (s.stepClock k).PendingAmong ((s.moved k).scheduleStep k).sch.entries := by
        have walked := takeSwapTime (takeAlign (takeWindowEnds (l := .among _) step.self))
        unfold State.stepClock
        rw [if_neg still]
        exact walked
      have now : (s.stepClock k).now = (s.moved k).now := by
        unfold State.stepClock
        rw [if_neg still]
        simp [State.now, State.moved]
      exact ⟨rest.stored, rest.striker, rest.scheduleLaw (now ▸ inOrder)⟩
    · exact stepClock_of_moved awake still (h.moved pending k)

end Law.Holds

end Sys2Proof.Machine
end

section
/-! SUPPORT. Time marks, supervision and holdover, and the passage of time keep every law of the family. -/
namespace Sys2Proof.Machine

/-! ### The sync state -/

theorem State.enterSync_scu (x : SyncState) (s : State) : (s.enterSync x).scu = { s.scu with sync := x } := by
  unfold State.enterSync; simp only []; split <;> rfl

/-- Entering UNLOCKED or ACQUIRING takes a pending swap into effect (R10). -/
theorem State.enterSync_pendingSwap {x : SyncState} (h : x.notLocked = true) (s : State) :
    (s.enterSync x).tbs.pendingSwap = none := by
  unfold State.enterSync
  simp only [h, true_and]
  split
  · rfl
  · rename_i none; simpa using none

/-- A clock without slew and holdover has its law on entering UNLOCKED or ACQUIRING. -/
theorem State.clockLaw_enterSync {s : State} {x : SyncState} (out : x.notLocked = true)
    (confidence : s.scu.confidence ≤ 8) (slew : s.scu.slew = 0) (start : s.scu.holdoverStart = none) :
    (s.enterSync x).ClockLaw where
  confidence := by rw [State.enterSync_scu]; exact confidence
  slew := by rw [State.enterSync_scu]; simp [slew]
  unslewed _ := by rw [State.enterSync_scu]; exact ⟨slew, State.enterSync_pendingSwap out s⟩
  locked h := by rw [State.enterSync_scu] at h; rw [out] at h; cases h
  holdover := by
    rw [State.enterSync_scu]
    simp only [start, ne_eq, not_true, iff_false]
    rintro rfl
    cases out

/-- A clock that is locked has its law with a MARK received, some confidence and a slew within its range. -/
theorem State.clockLaw_locked {s : State} (sync : s.scu.sync = .locked) (confidence : s.scu.confidence ≤ 8)
    (slew : -64 ≤ s.scu.slew ∧ s.scu.slew ≤ 64) (sure : 1 ≤ s.scu.confidence) (mark : s.scu.lastMark ≠ none)
    (start : s.scu.holdoverStart = none) : s.ClockLaw where
  confidence := confidence
  slew := slew
  unslewed out := by rw [sync] at out; cases out
  locked _ := ⟨sure, mark⟩
  holdover := by simp [sync, start]

/-- In a sync state other than HOLDOVER no holdover runs. -/
theorem State.ClockLaw.holdoverStart_none {s : State} (h : s.ClockLaw) (sync : s.scu.sync ≠ .holdover) :
    s.scu.holdoverStart = none := by
  by_contra running
  exact sync (h.holdover.2 running)

theorem moreConfident_range (c : Nat) : 1 ≤ moreConfident c ∧ moreConfident c ≤ 8 := by
  unfold moreConfident; omega

@[simp] theorem State.stepClock_scu (k : Int) (s : State) : (s.stepClock k).scu = Scu.stepped k s.scu := by
  unfold State.stepClock
  split
  · rename_i still; subst still; rfl
  · simp

/-! ### Time marks (R102 to R107) -/

/-- The state with a MARK's receipt noted, before its error is judged (R102). -/
def State.noteMark (pathDelay : Nat) (q : Quality) (s : State) : State :=
  s.onScu fun c => { c with lastPathDelay := pathDelay, qualityIn := q, lastMark := some s.localTime }

theorem State.ClockLaw.noteMark {s : State} (h : s.ClockLaw) (d : Nat) (q : Quality) : (s.noteMark d q).ClockLaw :=
  ⟨h.confidence, h.slew, h.unslewed, fun sure => ⟨(h.locked sure).1, nofun⟩, h.holdover⟩

namespace State.ClockLaw

variable {s : State}

theorem markUnlocked (h : s.ClockLaw) (sync : s.scu.sync = .unlocked) (e : Int) : (s.markUnlocked e).ClockLaw := by
  refine State.clockLaw_enterSync rfl (Nat.zero_le _) rfl ?_
  simpa [Scu.stepped] using h.holdoverStart_none (by simp [sync])

theorem markAcquiring (h : s.ClockLaw) (sync : s.scu.sync = .acquiring) (awake : s.resetting = none)
    (mark : s.scu.lastMark ≠ none) (e : Int) (q : Quality) : (s.markAcquiring e q).ClockLaw := by
  have start : s.scu.holdoverStart = none := h.holdoverStart_none (by simp [sync])
  have slew : s.scu.slew = 0 := (h.unslewed (by rw [sync]; rfl)).1
  have counted : ∀ t : State, t.ClockLaw → t.scu.sync = .acquiring → ∀ c ≤ 8,
      (t.onScu fun v => { v with confidence := c }).ClockLaw := fun t h sync c le =>
    { confidence := le, slew := h.slew, unslewed := h.unslewed, holdover := h.holdover
      locked := fun locked => by rw [State.onScu_scu, sync] at locked; cases locked }
  have entered : ∀ t : State, t.scu.confidence = 8 → t.scu.slew = 0 → t.scu.lastMark ≠ none →
      t.scu.holdoverStart = none → (t.enterSync .locked).ClockLaw := fun t sure still mark start => by
    apply State.clockLaw_locked <;> rw [State.enterSync_scu] <;> simp [sure, still, mark, start]
  unfold State.markAcquiring
  simp only []
  by_cases near : e.natAbs ≤ 2
  · rw [if_pos near]
    split
    · rename_i sure
      exact entered _ sure.1 slew mark start
    · exact counted s h sync _ (moreConfident_range _).2
  · rw [if_neg near, if_neg (by simp)]
    refine counted _ (Law.Holds.stepClock (l := .clock) h awake e) ?_ 0 (Nat.zero_le _)
    simpa [Scu.stepped] using sync

theorem markLocked (h : s.ClockLaw) (sync : s.scu.sync = .locked) (mark : s.scu.lastMark ≠ none) (e : Int)
    (early : Bool) : (s.markLocked e early).ClockLaw := by
  have start : s.scu.holdoverStart = none := h.holdoverStart_none (by simp [sync])
  have most := h.confidence
  unfold State.markLocked
  simp only []
  split
  · split
    · rename_i gone
      refine State.clockLaw_enterSync rfl ?_ rfl ?_
      · simp [gone]
      · simpa using start
    · rename_i left
      apply State.clockLaw_locked <;> simp only [State.report_frame, State.onScu_scu]
      · exact sync
      · omega
      · exact h.slew
      · omega
      · exact mark
      · exact start
  · rename_i inside
    have range := moreConfident_range s.scu.confidence
    rw [not_or, not_lt] at inside
    split
    · exact State.clockLaw_locked sync range.2 ⟨by simp, by simp⟩ range.1 mark start
    · refine State.clockLaw_locked sync range.2 ?_ range.1 mark start
      simp only [State.onScu_scu]
      omega

theorem markHoldover (h : s.ClockLaw) (awake : s.resetting = none)
    (mark : s.scu.lastMark ≠ none) (e : Int) : (s.markHoldover e).ClockLaw := by
  have range := moreConfident_range s.scu.confidence
  unfold State.markHoldover
  split
  · apply State.clockLaw_locked <;> rw [State.enterSync_scu] <;> simp only [State.onScu_scu]
    · exact range.2
    · omega
    · exact range.1
    · exact mark
  · rename_i far
    have acquired : ((s.onScu fun c => { c with holdoverStart := none }).enterSync .acquiring).scu
        = { s.scu with holdoverStart := none, sync := .acquiring } := State.enterSync_scu _ _
    have stepped : State.ClockLaw
        (((s.onScu fun c => { c with holdoverStart := none }).enterSync .acquiring).stepClock e) := by
      refine Law.Holds.stepClock_of_moved (l := .clock) (by simpa using awake) (by omega)
        (State.clockLaw_moved e ?_ (fun _ => State.enterSync_pendingSwap rfl _) ?_ ?_) <;> rw [acquired]
      · exact h.confidence
      · nofun
      · simp
    refine ⟨Nat.zero_le _, by simp, fun out => ⟨rfl, (stepped.unslewed out).2⟩, fun sure => ?_, stepped.holdover⟩
    simp [acquired, Scu.stepped, SyncState.notLocked] at sure

theorem disciplineClock (h : s.ClockLaw) (awake : s.resetting = none) (t : ShowTime) (d : Nat) (q : Quality) :
    (s.disciplineClock t d q).ClockLaw := by
  have noted := h.noteMark d q
  unfold State.disciplineClock
  simp only []
  split
  · exact noted.markUnlocked ‹_› _
  · exact noted.markAcquiring ‹_› awake nofun _ _
  · exact noted.markLocked ‹_› nofun _ _
  · exact noted.markHoldover awake nofun _

/-- The supervision deadline: LOCKED becomes HOLDOVER (R106). -/
theorem takeSupervision (h : s.ClockLaw) : s.takeSupervision.ClockLaw := by
  unfold State.takeSupervision
  split
  · rename_i reached
    have sync : s.scu.sync = .locked := by simp [State.supervisionReached] at reached; exact reached.1
    have locked := h.locked (by rw [sync]; rfl)
    refine ⟨?_, ?_, ?_, ?_, ?_⟩ <;> rw [State.enterSync_scu]
    · exact h.confidence
    · exact h.slew
    · nofun
    · exact fun _ => locked
    · simp
  · exact h

theorem takeHoldoverExpiry (h : s.ClockLaw) : s.takeHoldoverExpiry.ClockLaw := by
  unfold State.takeHoldoverExpiry
  split
  · exact State.clockLaw_enterSync rfl (by simp) (by simp) (by simp)
  · exact h

end State.ClockLaw

namespace Law.Holds

variable {l : Law} {s : State}

theorem markUnlocked (h : l.Holds s) (other : l ≠ .clock) (awake : s.resetting = none) (e : Int) :
    l.Holds (s.markUnlocked e) :=
  ((h.stepClock awake e).onScu other _).enterSync other _

theorem markAcquiring (h : l.Holds s) (other : l ≠ .clock) (awake : s.resetting = none) (e : Int) (q : Quality) :
    l.Holds (s.markAcquiring e q) := by
  have counted : l.Holds
      (if e.natAbs ≤ 2 then s.onScu fun c => { c with confidence := moreConfident c.confidence }
        else (s.stepClock e).onScu fun c => { c with confidence := 0 }) :=
    ite (h.onScu other _) ((h.stepClock awake e).onScu other _)
  unfold State.markAcquiring
  exact ite (counted.enterSync other _) counted

theorem markLocked (h : l.Holds s) (other : l ≠ .clock) (e : Int) (early : Bool) : l.Holds (s.markLocked e early) := by
  have warned := (h.onScu other fun c => { c with confidence := c.confidence - 2 }).report .clockWindow
  unfold State.markLocked
  refine ite (ite ((warned.onScu other _).enterSync other _) warned) (h.onScu other _ ?_)
  split <;> rfl

theorem markHoldover (h : l.Holds s) (other : l ≠ .clock) (awake : s.resetting = none) (e : Int) :
    l.Holds (s.markHoldover e) := by
  unfold State.markHoldover
  refine ite ((h.onScu other _).enterSync other _) ?_
  exact (((h.onScu other _).enterSync other _).stepClock (by simpa using awake) e).onScu other _

theorem disciplineClock (h : l.Holds s) (awake : s.resetting = none) (t : ShowTime) (d : Nat) (q : Quality) :
    l.Holds (s.disciplineClock t d q) := by
  by_cases clock : l = .clock
  · subst clock; exact State.ClockLaw.disciplineClock h awake t d q
  · have noted : l.Holds (s.noteMark d q) := h.onScu clock _
    unfold State.disciplineClock
    simp only []
    split
    · exact noted.markUnlocked clock awake _
    · exact noted.markAcquiring clock awake _ _
    · exact noted.markLocked clock _ _
    · exact noted.markHoldover clock awake _

theorem takePosition (h : l.Holds s) (hop : Byte) : l.Holds (s.takePosition hop) := by
  have placed := h.onLiu fun l => { l with position := hop + 1, chainTooLong := false }
  have unplaced := h.onLiu fun l => { l with position := 255, chainTooLong := true }
  unfold State.takePosition
  exact ite (ite (placed.reportEnd _) placed) (ite unplaced (unplaced.report _))

theorem takeMark (h : l.Holds s) (awake : s.resetting = none) (t : ShowTime) (hop : Byte) (d : BitVec 24) (q : Byte) :
    l.Holds (s.takeMark t hop d q) := by
  have placed := (h.countGood .upstream).takePosition hop
  have disciplined := placed.disciplineClock (by simpa using awake) t d.toNat (readQuality q)
  exact (disciplined.onPdu _).forwardMark _

theorem takeSupervision (h : l.Holds s) : l.Holds s.takeSupervision := by
  by_cases clock : l = .clock
  · subst clock; exact State.ClockLaw.takeSupervision h
  · unfold State.takeSupervision
    exact ite ((h.onScu clock _).enterSync clock _) h

theorem takeHoldoverExpiry (h : l.Holds s) : l.Holds s.takeHoldoverExpiry := by
  by_cases clock : l = .clock
  · subst clock; exact State.ClockLaw.takeHoldoverExpiry h
  · unfold State.takeHoldoverExpiry
    exact ite ((((h.onScu clock _).report _).flushSchedule).enterSync clock _) h

end Law.Holds

/-! ### The passage of time (R101) -/

theorem signedDiff_next (a now : ShowTime) (h : 0 < signedDiff a now) :
    signedDiff a (now + 1) = signedDiff a now - 1 := by
  have next : signedDiff (now + 1) now = 1 := signedDiff_plusGrains now 1 (by omega)
  have low : -2147483648 ≤ signedDiff a now := BitVec.le_toInt _
  have high : signedDiff a now < 2147483648 := BitVec.toInt_lt
  rw [signedDiff_eq_sub a (now + 1) now (by omega) (by omega), next]

theorem driveEndReached_false {s : State} {n : Fin 24} (h : s.driveEndReached n = false) {d : Drive}
    (hd : (s.channel n).drive = some d) : 0 < signedDiff d.endTime s.now := by
  simpa [State.driveEndReached, hd, reached] using h

namespace Law.Holds

variable {l : Law} {s : State}

/-- The clock advances by a grain with nothing due. -/
theorem advance (h : l.Holds s) (drives : ∀ n, s.driveEndReached n = false)
    (head : l = .schedule → s.headReached = false) (f : Scu → Scu)
    (scu : ∀ c, f c = { c with now := c.now + 1, slewCount := (f c).slewCount }) : l.Holds (s.onScu f) := by
  have now : (s.onScu f).now = s.now + 1 := by
    simp only [State.now, State.onScu_scu]; rw [scu]
  have striker : s.StrikerLaw → (s.onScu f).StrikerLaw := fun h =>
    h.of_parts rfl fun n kept => ⟨kept.heat, kept.trim, kept.runs, fun d hd => by
      obtain ⟨width, low, high⟩ := kept.drive d hd
      have left := driveEndReached_false (drives n) hd
      rw [now, signedDiff_next _ _ left]
      exact ⟨width, by omega, by omega⟩⟩
  cases l with
  | output => exact State.OutputLaw.of_parts h (fun _ => .inl ⟨rfl, rfl⟩) (fun _ => rfl) rfl id
  | queue => exact State.QueueLaw.of_parts h rfl rfl rfl (List.Sublist.refl _)
  | lamp => exact h
  | striker => exact striker h
  | clock =>
    refine ⟨?_, ?_, ?_, ?_, ?_⟩ <;> rw [State.onScu_scu, scu]
    · exact h.confidence
    · exact h.slew
    · exact h.unslewed
    · exact h.locked
    · exact h.holdover
  | pointer => exact State.PointerLaw.of_parts h (.inl rfl) (.inr (.inl rfl)) (.inl rfl) id
  | rotor => exact State.RotorLaw.of_parts h rfl rfl
  | stored => exact State.StoredLaw.of_parts h rfl rfl rfl rfl rfl rfl
  | schedule =>
    obtain ⟨hs, hc, hq⟩ := h
    have after := all_after (k := 0) (from_ := s.now) hq.inOrder (by decide) (by simp [shiftBy]) (head rfl)
    refine ⟨hs.of_parts rfl rfl rfl rfl rfl rfl, striker hc, hq.capacity, hq.order, fun e he => ?_, hq.onlyInRun,
      hq.setup⟩
    have later := after e he
    have span := hq.span e he
    rw [now, signedDiff_next _ _ later]
    omega
  | modes m => exact h
  | frozen b =>
    obtain ⟨hp, locked, same⟩ := h
    exact ⟨hp.of_parts (.inl rfl) (.inr (.inl rfl)) (.inl rfl) id, locked, same⟩
  | among es =>
    exact State.PendingAmong.of_parts h (h.stored.of_parts rfl rfl rfl rfl rfl rfl) (striker h.striker)
      (List.Sublist.refl _) (.inl rfl)
  | still m => exact h

/-- Local time goes on. -/
theorem onLocalTime (h : l.Holds s) (t : Nat) : l.Holds { s with localTime := t } :=
  h.elsewhere rfl rfl rfl rfl rfl rfl rfl rfl rfl rfl rfl

theorem onChoices (h : l.Holds s) (n : Nat) : l.Holds { s with choices := n } :=
  h.elsewhere rfl rfl rfl rfl rfl rfl rfl rfl rfl rfl rfl

end Law.Holds

/-- With no event fallen, no entry and no drive end is due. -/
theorem headReached_of_fallenShow {s : State} (h : s.fallenShow = []) : s.headReached = false := by
  have none : ∀ e ∈ showEvents, s.fallen e = false := by simpa [State.fallenShow, List.filter_eq_nil_iff] using h
  exact none .due (by simp [showEvents])

theorem driveEndReached_of_fallenShow {s : State} (h : s.fallenShow = []) (n : Fin 24) :
    s.driveEndReached n = false := by
  have none : ∀ e ∈ showEvents, s.fallen e = false := by simpa [State.fallenShow, List.filter_eq_nil_iff] using h
  exact none (.driveEnd n) (by simp [showEvents, allStrikers])

theorem fallenShow_of_fallenEvents {s : State} (awake : s.resetting = none) (h : s.fallenEvents = []) :
    s.fallenShow = [] := by
  rw [State.fallenEvents, awake] at h
  simp only [Option.isSome_none, Bool.false_eq_true, if_false, List.append_eq_nil_iff, List.map_eq_nil_iff] at h
  exact h.1

/-- A drive end that is taken ends the drive; another channel's is as it was. -/
theorem takeDriveEnd_driveEndReached (n m : Fin 24) (s : State) :
    (s.takeDriveEnd n).driveEndReached m = if m = n then false else s.driveEndReached m := by
  have now : (s.takeDriveEnd n).now = s.now := by simp [State.now]
  unfold State.takeDriveEnd
  split
  · rename_i fallen
    split
    · rename_i same
      subst same
      rw [State.driveEndReached, State.setChannel_channel_same]
      unfold Channel.endDrive
      cases running : (s.channel m).drive with
      | none => simp [running]
      | some d => simp [Channel.rest]
    · rename_i other
      simp only [State.driveEndReached, State.setChannel_channel_other other]
      rfl
  · rename_i waiting
    split
    · rename_i same; subst same; exact Bool.eq_false_iff.2 waiting
    · rfl

theorem foldl_takeDriveEnd_driveEndReached (ns : List (Fin 24)) (m : Fin 24) (s : State) :
    (ns.foldl (fun s n => s.takeDriveEnd n) s).driveEndReached m = if m ∈ ns then false else s.driveEndReached m := by
  induction ns generalizing s with
  | nil => simp
  | cons n ns ih =>
    rw [List.foldl_cons, ih, takeDriveEnd_driveEndReached]
    by_cases same : m = n <;> by_cases later : m ∈ ns <;> simp [same, later]

theorem endDrives_driveEndReached (n : Fin 24) (s : State) : s.endDrives.driveEndReached n = false := by
  unfold State.endDrives
  rw [foldl_takeDriveEnd_driveEndReached, if_pos (show n ∈ allStrikers from List.mem_finRange n)]

namespace Law.Holds

variable {l : Law} {s : State}

theorem endDrives (h : l.Holds s) : l.Holds s.endDrives := foldl (fun _ n h => h.takeDriveEnd n) _ h

theorem take (h : l.Holds s) (awake : s.resetting = none) (e : ShowEvent) : l.Holds (s.take e) := by
  cases e with
  | due => exact h.takeDue awake
  | driveEnd n => exact h.takeDriveEnd n
  | recoveryEnd n => exact h.takeRecoveryEnd n
  | busyUntilLapse n => exact h.takeBusyLapse n
  | impactWindowEnd n => exact h.takeWindowEnd n
  | travelEnd d => exact h.takeTravelEnd d
  | chokeHoldExpiry d => exact h.takeHoldExpiry d
  | risingEdge => exact h.takeRisingEdge
  | fallingEdge => exact h.takeFallingEdge
  | align => exact h.takeAlign
  | swap => exact h.takeSwapTime

theorem settle (h : l.Holds s) (awake : s.resetting = none) (n : Nat) : l.Holds (s.settle n) := by
  induction n generalizing s with
  | zero => exact (h.takeDue awake).endDrives
  | succ n ih =>
    unfold State.settle
    split
    · exact h
    · rename_i e _
      have same := (take_frame s.chosen e).2.2.2.2.1
      exact ih (take (s := s.chosen) (h.onChoices _) awake e) (same.trans awake)

end Law.Holds

/-- A grain settled leaves no drive end due (R101, log entry 25). -/
theorem settle_driveEndReached (k : Nat) (s : State) (n : Fin 24) : (s.settle k).driveEndReached n = false := by
  induction k generalizing s with
  | zero => exact endDrives_driveEndReached n _
  | succ k ih =>
    unfold State.settle
    split
    · rename_i none
      exact driveEndReached_of_fallenShow (pick_none.1 none) n
    · exact ih _

/-- A grain settled leaves no entry due (R101, log entry 25). -/
theorem settle_headReached {s : State} {es : List Entry} (h : s.PendingAmong es) (awake : s.resetting = none)
    (k : Nat) : (s.settle k).headReached = false := by
  induction k generalizing s with
  | zero =>
    have due := takeDue_headReached h awake
    obtain ⟨scu, sch, _⟩ := endDrives_frame s.takeDue
    rw [State.headReached] at due ⊢
    rw [State.settle, sch, State.now, scu]
    exact due
  | succ k ih =>
    unfold State.settle
    split
    · rename_i none
      exact headReached_of_fallenShow (pick_none.1 none)
    · rename_i e _
      have same := (take_frame s.chosen e).2.2.2.2.1
      have chosen : s.chosen.PendingAmong es := Law.Holds.onChoices (l := .among es) h _
      exact ih (Law.Holds.take (l := .among es) chosen awake e) (same.trans awake)

namespace Law.Holds

variable {l : Law} {s : State}

theorem passFineUnit (h : l.Holds s) (idle : s.fallenEvents = []) : l.Holds s.passFineUnit := by
  have later := h.onLocalTime (s.localTime + 1)
  unfold State.passFineUnit
  simp only []
  split
  · rename_i grain
    have awake : s.resetting = none := by simpa using (Bool.and_eq_true_iff.1 grain).2
    have idle := fallenShow_of_fallenEvents awake idle
    exact advance later (driveEndReached_of_fallenShow idle) (fun _ => headReached_of_fallenShow idle) _ fun _ => rfl
  · exact later

/-- The correction after a slew grain stays in its range, and a slewing clock is locked. -/
theorem slewStep (h : l.Holds s) (slewing : s.scu.slew ≠ 0) : l.Holds (s.onScu Scu.slewStep) := by
  by_cases clock : l = .clock
  · subst clock
    obtain ⟨low, high⟩ := h.slew
    refine ⟨h.confidence, ?_, fun out => absurd (h.unslewed out).1 slewing, h.locked, h.holdover⟩
    simp only [State.onScu_scu, Scu.slewStep]
    split <;> omega
  · exact h.onScu clock _

theorem takeSlewGrain (h : l.Holds s) (awake : s.resetting = none) : l.Holds s.takeSlewGrain := by
  unfold State.takeSlewGrain
  simp only []
  split
  · rename_i fallen
    obtain ⟨slewing, idle⟩ : s.slewNext = true ∧ s.fallenEvents = [] := by simpa using fallen
    have idle := fallenShow_of_fallenEvents awake idle
    have slewing : s.scu.slew ≠ 0 := by simp [State.slewNext] at slewing; exact slewing.1.2
    have stepped : l.Holds (({ s with localTime := s.localTime + 1 }).onScu Scu.slewStep) :=
      slewStep (h.onLocalTime _) slewing
    split
    · have skipped := advance stepped (driveEndReached_of_fallenShow idle)
        (fun _ => headReached_of_fallenShow idle) (fun c => { c with now := c.now + 1 }) fun _ => rfl
      refine advance (skipped.settle awake _) (settle_driveEndReached _ _) (fun pending => ?_) _ fun _ => rfl
      subst pending
      obtain ⟨stored, striker, schedule⟩ := skipped
      exact settle_headReached (schedule.among stored striker) awake _
    · exact stepped
  · exact h

end Law.Holds

end Sys2Proof.Machine
end

section
/-! SUPPORT. Acceptance: the entries of an accepted request lie within the span of the schedule, so that the laws are
kept. -/
namespace Sys2Proof.Machine

/-! ### Insertion (R39, R41) -/

/-- Entries within the span are inserted in order while there is room. -/
theorem InOrder.insertAll {now : ShowTime} {es : List Entry} (new : List Entry) (h : InOrder now es)
    (span : ∀ e ∈ new, InSpan now e.action) (room : es.length + new.length ≤ Config.scheduleCapacity) :
    InOrder now (new.foldl (fun l e => insertEntry e l) es) := by
  induction new generalizing es with
  | nil => exact h
  | cons e new ih =>
    have he := span e List.mem_cons_self
    rw [List.length_cons] at room
    refine ih (es := insertEntry e es) ⟨?_, insertEntry_order he h.span h.order, fun x hx => ?_⟩
      (fun x hx => span x (List.mem_cons_of_mem _ hx)) ?_
    · rw [length_insertEntry]; omega
    · rcases (mem_insertEntry e x es).1 hx with rfl | hx
      · exact he
      · exact h.span x hx
    · rw [length_insertEntry]; omega

theorem Law.Holds.insertAll {l : Law} {s : State} (h : l.Holds s) (other : ∀ es, l ≠ .among es) {new : List Entry}
    (run : s.mdc.mode = .run) (room : new.length ≤ s.sch.free)
    (span : s.StoredLaw → s.StrikerLaw → ∀ e ∈ new, InSpan s.now e.action) :
    l.Holds (s.onSch (Sch.insertAll new)) := by
  refine h.onSch _ (fun _ stored striker h => ?_) fun es eq => absurd eq (other es)
  have capacity := h.capacity
  obtain ⟨capacity, order, span⟩ := h.inOrder.insertAll new (span stored striker) (by unfold Sch.free at room; omega)
  exact ⟨capacity, order, span, fun out => absurd run out, h.setup⟩

/-! ### The accepted PLAY (R24 to R31) -/

theorem fHard_le {s : State} (h : s.StoredLaw) (n : Fin 24) :
    (s.strikerRecord n).fHard ≤ 4095 ∧ (s.strikerRecord n).fSoft ≤ 4095 := by
  rw [← h.strikers n]; exact ⟨min_le_left _ _, min_le_left _ _⟩

theorem lateTolerance_le {s : State} (h : s.StoredLaw) : s.node.lateTolerance ≤ 65535 := by
  have := (at2 s.node.bytes 12).isLt
  rw [← h.node]
  simp only [NodeRecord.ofBytes]
  omega

theorem engageTravel_le {s : State} (h : s.StoredLaw) (d : Fin 4) : (s.damperRecord d).engageTravel ≤ 65535 := by
  have := (at2 (s.damperRecord d).bytes 3).isLt
  rw [← h.dampers d]
  simp only [DamperRecord.ofBytes]
  omega

/-- A flight is short against the span (R24). -/
theorem flightTime_le {r : StrikerRecord} (hard : r.fHard ≤ 4095) (soft : r.fSoft ≤ 4095) {trim : Int}
    (high : trim ≤ 511) (force : Nat) : flightTime r trim force ≤ 10000 := by
  have wide : r.fSoftEff ≤ 4095 := max_le soft hard
  have order : r.fHard ≤ r.fSoftEff := le_max_right _ _
  have product : ((r.fSoftEff : Int) - r.fHard) * (63 - force) ≤ ((r.fSoftEff : Int) - r.fHard) * 63 :=
    mul_le_mul_of_nonneg_left (by omega) (by omega)
  unfold flightTime
  generalize ((r.fSoftEff : Int) - r.fHard) * (63 - force) = p at *
  omega

/-- A choke's action time lies within the span if its own time lies near the strike's (R29). -/
theorem chokeAction_inSpan {s : State} {d start a : ShowTime} (setup : s.node.setupMargin ≤ 1000)
    (tolerance : s.node.lateTolerance ≤ 65535) (timed : s.checkTiming d = .ok start)
    (near : -1000000 ≤ signedDiff a d ∧ signedDiff a d ≤ 1000000) : InSpan s.now (s.chokeAction start a) := by
  have begins := checkTiming_inSpan setup timed
  have margin : -65535 ≤ signedDiff d s.now ∧ signedDiff d s.now ≤ Config.horizon := by
    unfold State.checkTiming at timed
    simp only [] at timed
    split at timed
    · cases timed
    · split at timed
      · omega
      · split at timed
        · omega
        · cases timed
  have back : signedDiff s.now d = -signedDiff d s.now := by
    simp only [Config.horizon] at margin
    rw [signedDiff_eq_sub s.now d s.now (by simp; omega) (by simp; omega)]
    simp
  have ahead : signedDiff a s.now = signedDiff a d + signedDiff d s.now := by
    simp only [Config.horizon] at margin
    rw [signedDiff_eq_sub a s.now d (by omega) (by omega), back]
    omega
  unfold State.chokeAction
  split
  · exact begins
  · rename_i later
    rw [before_iff] at later
    split
    · have furthest := signedDiff_plusGrains s.now Config.horizon (by decide)
      simp only [InSpan, furthest]
      exact ⟨by omega, le_rfl⟩
    · rename_i inside
      simp only [InSpan, Config.horizon] at begins inside margin ⊢
      rw [signedDiff_eq_sub a start s.now (by omega) (by omega)] at later
      omega

/-- What an accepted PLAY has found: RUN, a striker, and room for its entries (R18, R28, R30). -/
theorem decidePlay_found {s : State} {note force articulation : Byte} {target : ShowTime} {choke : Option Half}
    {c : Candidacy} {es : List Entry} (h : s.decidePlay note force articulation target choke = .ok (c, es)) :
    s.mdc.mode = .run ∧ es.length ≤ s.sch.free ∧
    ∃ e f w, s.chooseStriker e f target = .ok c ∧
      es = strikeEntry c target w :: (s.chokeEntry e c.start target choke).toList := by
  unfold State.decidePlay State.requestOpen at h
  by_cases run : s.mdc.mode = .run
  · by_cases clock : s.scu.sync.notLocked
    · rw [if_neg (not_not.2 run), if_pos clock] at h; cases h
    · rw [if_neg (not_not.2 run), if_neg clock] at h
      simp only [bind, Except.bind] at h
      split at h
      · cases h
      split at h
      · cases h
      split at h
      · cases h
      split at h
      · cases h
      rename_i chosen
      split at h
      · cases h
      · rename_i room
        cases h
        exact ⟨run, not_lt.1 room, _, _, _, chosen, rfl⟩
  · rw [if_pos run] at h; cases h

/-- The striker chosen starts at a time that has passed the timing checks for its flight (R23, R25). -/
theorem chooseStriker_timed {s : State} {e : NoteEntry} {force : Nat} {target : ShowTime} {c : Candidacy}
    (h : s.chooseStriker e force target = .ok c) :
    ∃ n, s.checkTiming
      (target - BitVec.ofNat 32 (flightTime (s.strikerRecord n) (s.channel n).trim force)) = .ok c.start := by
  have tried : ∀ n, s.tryStriker n force target = .ok c → s.checkTiming
      (target - BitVec.ofNat 32 (flightTime (s.strikerRecord n) (s.channel n).trim force)) = .ok c.start := by
    intro n h
    unfold State.tryStriker at h
    simp only [] at h
    split at h
    · cases h
    · split at h
      · cases h
      · rename_i timed
        split at h
        · cases h
        · cases h; exact timed
  unfold State.chooseStriker at h
  split at h
  · rename_i primary
    cases h
    exact ⟨_, tried _ primary⟩
  · split at h
    · cases h
    · exact ⟨_, tried _ h⟩

/-- The time at which a choke has to begin lies near the drive start asked for. -/
theorem signedDiff_choke (target : ShowTime) {flight duration travel : Nat} (hf : flight ≤ 10000)
    (hd : duration ≤ 65535) (ht : travel ≤ 65535) :
    signedDiff (plusGrains target duration - BitVec.ofNat 32 travel) (target - BitVec.ofNat 32 flight)
      = (duration : Int) + flight - travel := by
  have e : plusGrains target duration - BitVec.ofNat 32 travel - (target - BitVec.ofNat 32 flight)
      = BitVec.ofInt 32 ((duration : Int) + flight - travel) := by
    rw [Int.sub_eq_add_neg, BitVec.ofInt_add, BitVec.ofInt_add, BitVec.ofInt_neg]
    simp only [BitVec.ofInt_natCast, plusGrains]
    ring
  unfold signedDiff
  rw [e, BitVec.toInt_ofInt]
  apply Int.bmod_eq_of_le <;> omega

/-- A choke begins its damper's travel time before its own target (R29). -/
theorem chokeEntry_action {s : State} {e : NoteEntry} {start target : ShowTime} {choke : Option Half} {x : Entry}
    (h : x ∈ (s.chokeEntry e start target choke).toList) : ∃ d, ∃ duration : Half,
      x.action = s.chokeAction start
        (plusGrains target duration.toNat - BitVec.ofNat 32 (s.damperRecord d).engageTravel) := by
  unfold State.chokeEntry at h
  split at h
  · rename_i duration d _
    simp only [] at h
    split at h
    · rw [Option.toList_some, List.mem_singleton] at h
      subst h
      exact ⟨d, duration, rfl⟩
    · cases h
  · cases h

theorem decidePlay_inSpan {s : State} {note force articulation : Byte} {target : ShowTime} {choke : Option Half}
    {c : Candidacy} {es : List Entry} (h : s.decidePlay note force articulation target choke = .ok (c, es))
    (stored : s.StoredLaw) (striker : s.StrikerLaw) : ∀ e ∈ es, InSpan s.now e.action := by
  obtain ⟨-, -, entry, f, w, chosen, rfl⟩ := decidePlay_found h
  obtain ⟨n, timed⟩ := chooseStriker_timed chosen
  have begins := checkTiming_inSpan stored.setupMargin_le timed
  intro e he
  rcases List.mem_cons.1 he with rfl | he
  · exact begins
  · obtain ⟨d, duration, timed_choke⟩ := chokeEntry_action he
    obtain ⟨hard, soft⟩ := fHard_le stored n
    have flight := flightTime_le hard soft (striker.channels n).trim.2 f
    have travel := engageTravel_le stored d
    have short := duration.isLt
    rw [timed_choke]
    refine chokeAction_inSpan stored.setupMargin_le (lateTolerance_le stored) timed ?_
    rw [signedDiff_choke target flight (Nat.le_of_lt_succ short) travel]
    omega

/-! ### The accepted MUTE (R35) -/

theorem damperEntries_inSpan {a : DamperAction} {target : ShowTime} {s : State} (setup : s.node.setupMargin ≤ 1000)
    {ds : List (Fin 4)} {es : List Entry} (h : s.damperEntries a target ds = .ok es) :
    ∀ x ∈ es, InSpan s.now x.action := by
  induction ds generalizing es with
  | nil => cases h; simp
  | cons d ds ih =>
    unfold State.damperEntries State.damperEntry at h
    split at h
    · cases h
    · rename_i e formed
      split at formed
      · cases formed
      · rename_i timed
        cases formed
        split at h
        · cases h
        · rename_i rest others
          cases h
          intro x hx
          rcases List.mem_cons.1 hx with rfl | hx
          · exact checkTiming_inSpan setup timed
          · exact ih others x hx

theorem decideMute_found {selector : Option (Fin 4)} {a : DamperAction} {target : ShowTime} {s : State}
    {es : List Entry} (h : s.decideMute selector a target = .ok es) :
    s.mdc.mode = .run ∧ es.length ≤ s.sch.free ∧ ∃ ds, s.damperEntries a target ds = .ok es := by
  unfold State.decideMute State.requestOpen at h
  by_cases run : s.mdc.mode = .run
  · by_cases clock : s.scu.sync.notLocked
    · rw [if_neg (not_not.2 run), if_pos clock] at h; cases h
    · rw [if_neg (not_not.2 run), if_neg clock] at h
      simp only [bind, Except.bind] at h
      split at h
      · cases h
      · split at h
        · cases h
        · rename_i formed
          split at h
          · cases h
          · rename_i room
            cases h
            exact ⟨run, not_lt.1 room, _, formed⟩
  · rw [if_pos run] at h; cases h

namespace Law.Holds

variable {l : Law} {s : State}

theorem refuse (h : l.Holds s) (r : RefuseReason) : l.Holds (s.refuse r) := by
  unfold State.refuse
  exact ite ((h.onAcu _).report _) (h.onAcu _)

theorem takePlay (h : l.Holds s) (other : ∀ es, l ≠ .among es) (awake : s.resetting = none)
    (note force articulation : Byte) (target : ShowTime) (choke : Option Half) :
    l.Holds (s.takePlay note force articulation target choke) := by
  unfold State.takePlay
  split
  · exact h.refuse _
  · rename_i c es accepted
    obtain ⟨run, room, _⟩ := decidePlay_found accepted
    have inserted := h.insertAll other run room (decidePlay_inSpan accepted)
    exact (inserted.onAcu _).takeDue awake

theorem takeMute (h : l.Holds s) (other : ∀ es, l ≠ .among es) (awake : s.resetting = none) (selector action : Byte)
    (target : ShowTime) : l.Holds (s.takeMute selector action target) := by
  unfold State.takeMute
  split
  · exact h.refuse _
  · rename_i es accepted
    obtain ⟨run, room, ds, formed⟩ := decideMute_found accepted
    have inserted := h.insertAll other run room fun stored _ => damperEntries_inSpan stored.setupMargin_le formed
    exact inserted.takeDue awake

end Law.Holds

end Sys2Proof.Machine
end

section
/-! SUPPORT. The codec of the table items: an item that is stored is the correction of its own canonical bytes
(R170, R177). -/
namespace Sys2Proof.Machine

/-! ### Fields -/

theorem half_of_bytes (w : Half) : w.extractLsb' 8 8 ++ w.extractLsb' 0 8 = w :=
  BitVec.extractLsb'_append_extractLsb'_eq_extractLsb' rfl |>.trans (by simp)

theorem word24_of_bytes (w : BitVec 24) : w.extractLsb' 16 8 ++ w.extractLsb' 8 8 ++ w.extractLsb' 0 8 = w := by
  have high : w.extractLsb' 16 8 ++ w.extractLsb' 8 8 = w.extractLsb' 8 16 :=
    BitVec.extractLsb'_append_extractLsb'_eq_extractLsb' rfl
  have all : w.extractLsb' 8 16 ++ w.extractLsb' 0 8 = w.extractLsb' 0 24 :=
    BitVec.extractLsb'_append_extractLsb'_eq_extractLsb' rfl
  rw [high]
  exact all.trans (by simp)

/-- The fields of an item, read where they were written. -/
theorem toNat_half {n : Nat} (h : n ≤ 65535) : (BitVec.ofNat 16 n).toNat = n := by
  rw [BitVec.toNat_ofNat]; omega

theorem toNat_word24 {n : Nat} (h : n ≤ 16777215) : (BitVec.ofNat 24 n).toNat = n := by
  rw [BitVec.toNat_ofNat]; omega

theorem toNat_byteOf {n : Nat} (h : n ≤ 255) : (byteOf n).toNat = n := by
  rw [byteOf, BitVec.toNat_ofNat]; omega

theorem toInt_half {n : Int} (h : -512 ≤ n ∧ n ≤ 511) : (BitVec.ofInt 16 n).toInt = n := by
  rw [BitVec.toInt_ofInt]; apply Int.bmod_eq_of_le <;> omega

theorem toInt_byte {n : Int} (h : -16 ≤ n ∧ n ≤ 15) : (BitVec.ofInt 8 n).toInt = n := by
  rw [BitVec.toInt_ofInt]; apply Int.bmod_eq_of_le <;> omega

theorem clampInt_of_range {lo hi n : Int} (h : lo ≤ n ∧ n ≤ hi) : clampInt lo hi n = n := by
  unfold clampInt; split <;> [omega; split <;> omega]

theorem clampInt_range {lo hi : Int} (h : lo ≤ hi) (n : Int) : lo ≤ clampInt lo hi n ∧ clampInt lo hi n ≤ hi := by
  unfold clampInt; split <;> [omega; split <;> omega]

theorem clampNat_of_range {lo hi n : Nat} (h : lo ≤ n ∧ n ≤ hi) : clampNat lo hi n = n := by
  unfold clampNat; split <;> [omega; split <;> omega]

theorem clampNat_range {lo hi : Nat} (h : lo ≤ hi) (n : Nat) : lo ≤ clampNat lo hi n ∧ clampNat lo hi n ≤ hi := by
  unfold clampNat; split <;> [omega; split <;> omega]

theorem flags_of_three : ∀ a b c : Bool, let f : Byte := flagBit 0 a ||| flagBit 1 b ||| flagBit 2 c
    f.getLsbD 0 = a ∧ f.getLsbD 1 = b ∧ f.getLsbD 2 = c := by decide

theorem flags_of_five : ∀ a b c d e : Bool,
    let f : Byte := flagBit 0 a ||| flagBit 1 b ||| flagBit 2 c ||| flagBit 3 d ||| flagBit 4 e
    f.getLsbD 0 = a ∧ f.getLsbD 1 = b ∧ f.getLsbD 2 = c ∧ f.getLsbD 3 = d ∧ f.getLsbD 4 = e := by decide

theorem readGroupAddress_getD {g : Option Byte} (h : g ≠ some 0xFF) : readGroupAddress (g.getD 0xFF) = g := by
  cases g with
  | none => rfl
  | some b => exact if_neg fun e => h (congrArg some e)

theorem readGroupAddress_ne (b : Byte) : readGroupAddress b ≠ some 0xFF := by
  unfold readGroupAddress
  split
  · nofun
  · rename_i other; exact fun e => other (Option.some.inj e)

theorem readBelow_byteOf {n : Nat} (hn : n ≤ 255) (i : Fin n) : readBelow n (byteOf i.val) = some i := by
  have back := toNat_byteOf (n := i.val) (by omega)
  unfold readBelow
  rw [dif_pos (back.trans_lt i.isLt)]
  exact congrArg some (Fin.ext back)

theorem readBelow_optionByte {n : Nat} (hn : n ≤ 255) (v : Option (Fin n)) : readBelow n (optionByte v) = v := by
  cases v with
  | none => exact dif_neg (by show ¬ (0xFF : Byte).toNat < n; simpa using hn)
  | some i => exact readBelow_byteOf hn i

theorem readCurve_byteOf (c : Fin 8) : readCurve (byteOf c.val) = c := by
  have back := toNat_byteOf (n := c.val) (by omega)
  apply Fin.ext
  show min 7 (byteOf c.val).toNat = c.val
  omega

/-! ### Records -/

theorem at1_toNat_le (bs : List Byte) (i : Nat) : (at1 bs i).toNat ≤ 255 := Nat.le_of_lt_succ (at1 bs i).isLt

theorem at2_toNat_le (bs : List Byte) (i : Nat) : (at2 bs i).toNat ≤ 65535 := Nat.le_of_lt_succ (at2 bs i).isLt

theorem StrikerRecord.bytes_ofBytes (bs : List Byte) :
    StrikerRecord.ofBytes (StrikerRecord.ofBytes bs).bytes = StrikerRecord.ofBytes bs := by
  generalize stored : StrikerRecord.ofBytes bs = r
  obtain ⟨enabled, sense, adapt⟩ := flags_of_three r.enabled r.sense r.adapt
  have fHard : r.fHard ≤ 4095 := by subst stored; exact min_le_left _ _
  have fSoft : r.fSoft ≤ 4095 := by subst stored; exact min_le_left _ _
  have wMin : r.wMin ≤ 2047 := by subst stored; exact min_le_left _ _
  have wMax : r.wMax ≤ 2047 := by subst stored; exact min_le_left _ _
  have impactWindow : r.impactWindow ≤ 1023 := by subst stored; exact min_le_left _ _
  have recovery : r.recovery ≤ 65535 := by subst stored; exact at2_toNat_le _ _
  have hDerate : r.hDerate ≤ 65535 := by subst stored; exact at2_toNat_le _ _
  have hCut : r.hCut ≤ 65535 := by subst stored; exact at2_toNat_le _ _
  have cooling : r.cooling ≤ 255 := by subst stored; exact at1_toNat_le _ _
  have trimSeed : -512 ≤ r.trimSeed ∧ r.trimSeed ≤ 511 := by subst stored; exact clampInt_range (by decide) _
  clear stored
  simp only [StrikerRecord.ofBytes, StrikerRecord.bytes, nat2, int2, bytes2, at1, at2, List.cons_append,
    List.nil_append, List.getD_cons_zero, List.getD_cons_succ, Nat.reduceAdd, half_of_bytes, enabled, sense, adapt,
    toNat_byteOf cooling, toInt_half trimSeed, clampInt_of_range trimSeed,
    toNat_half (fHard.trans (by decide : 4095 ≤ 65535)), toNat_half (fSoft.trans (by decide : 4095 ≤ 65535)),
    toNat_half (wMin.trans (by decide : 2047 ≤ 65535)), toNat_half (wMax.trans (by decide : 2047 ≤ 65535)),
    toNat_half (impactWindow.trans (by decide : 1023 ≤ 65535)), toNat_half recovery, toNat_half hDerate,
    toNat_half hCut, min_eq_right fHard, min_eq_right fSoft, min_eq_right wMin, min_eq_right wMax,
    min_eq_right impactWindow]

theorem DamperRecord.bytes_ofBytes (bs : List Byte) :
    DamperRecord.ofBytes (DamperRecord.ofBytes bs).bytes = DamperRecord.ofBytes bs := by
  generalize stored : DamperRecord.ofBytes bs = r
  have enabled : ∀ b : Bool, (flagBit 0 b).getLsbD 0 = b := by decide
  have releaseTravel : r.releaseTravel ≤ 65535 := by subst stored; exact at2_toNat_le _ _
  have engageTravel : r.engageTravel ≤ 65535 := by subst stored; exact at2_toNat_le _ _
  have chokeHold : r.chokeHold ≤ 65535 := by subst stored; exact at2_toNat_le _ _
  simp only [DamperRecord.ofBytes, DamperRecord.bytes, nat2, bytes2, at1, at2, List.cons_append, List.nil_append,
    List.getD_cons_zero, List.getD_cons_succ, Nat.reduceAdd, half_of_bytes, enabled, toNat_half releaseTravel,
    toNat_half engageTravel, toNat_half chokeHold]

theorem NodeRecord.bytes_ofBytes (bs : List Byte) :
    NodeRecord.ofBytes (NodeRecord.ofBytes bs).bytes = NodeRecord.ofBytes bs := by
  generalize stored : NodeRecord.ofBytes bs = r
  obtain ⟨compensation, chainEnd, notices, rotorEnabled, indexEnabled⟩ :=
    flags_of_five r.compensation r.chainEnd r.notices r.rotorEnabled r.indexEnabled
  have ensemble : r.ensemble ≠ 255 := by
    subst stored
    show (if at1 bs 0 = 255 then 254 else at1 bs 0) ≠ 255
    split
    · decide
    · assumption
  have group1 : r.group1 ≠ some 0xFF := by subst stored; exact readGroupAddress_ne _
  have group2 : r.group2 ≠ some 0xFF := by subst stored; exact readGroupAddress_ne _
  have group3 : r.group3 ≠ some 0xFF := by subst stored; exact readGroupAddress_ne _
  have markPeriod : 100 ≤ r.markPeriod ∧ r.markPeriod ≤ 50000 := by
    subst stored; exact clampNat_range (by decide) _
  have holdoverLimit : 1000 ≤ r.holdoverLimit ∧ r.holdoverLimit ≤ 16777215 := by
    subst stored; exact clampNat_range (by decide) _
  have stepsPerRev : 1 ≤ r.stepsPerRev ∧ r.stepsPerRev ≤ 1000 := by subst stored; exact clampNat_range (by decide) _
  have setupMargin : r.setupMargin ≤ 1000 := by subst stored; exact min_le_left _ _
  have lateTolerance : r.lateTolerance ≤ 65535 := by subst stored; exact at2_toNat_le _ _
  have lowThreshold : r.lowThreshold ≤ 255 := by subst stored; exact at1_toNat_le _ _
  have cutThreshold : r.cutThreshold ≤ 255 := by subst stored; exact at1_toNat_le _ _
  have hysteresis : r.hysteresis ≤ 255 := by subst stored; exact at1_toNat_le _ _
  have filterTime : 1 ≤ r.filterTime ∧ r.filterTime ≤ 255 := by
    subst stored; exact ⟨le_max_left _ _, max_le (by decide) (at1_toNat_le _ _)⟩
  have rampStep : 1 ≤ r.rampStep ∧ r.rampStep ≤ 255 := by
    subst stored; exact ⟨le_max_left _ _, max_le (by decide) (at1_toNat_le _ _)⟩
  clear stored
  simp only [NodeRecord.ofBytes, NodeRecord.bytes, nat2, nat3, bytes2, bytes3, at1, at2, at3, List.cons_append,
    List.nil_append, List.getD_cons_zero, List.getD_cons_succ, Nat.reduceAdd, half_of_bytes, word24_of_bytes,
    compensation, chainEnd, notices, rotorEnabled, indexEnabled, if_neg ensemble, readGroupAddress_getD group1,
    readGroupAddress_getD group2, readGroupAddress_getD group3,
    toNat_half (markPeriod.2.trans (by decide : 50000 ≤ 65535)), clampNat_of_range markPeriod,
    toNat_word24 holdoverLimit.2, clampNat_of_range holdoverLimit,
    toNat_half (stepsPerRev.2.trans (by decide : 1000 ≤ 65535)), clampNat_of_range stepsPerRev,
    toNat_half (setupMargin.trans (by decide : 1000 ≤ 65535)), min_eq_right setupMargin, toNat_half lateTolerance,
    toNat_byteOf lowThreshold, toNat_byteOf cutThreshold, toNat_byteOf hysteresis, toNat_byteOf filterTime.2,
    max_eq_right filterTime.1, toNat_byteOf rampStep.2, max_eq_right rampStep.1]

theorem SupervisionItem.bytes_ofBytes (bs : List Byte) :
    SupervisionItem.ofBytes (SupervisionItem.ofBytes bs).bytes = SupervisionItem.ofBytes bs := by
  obtain ⟨reaction, notice⟩ := SupervisionItem.ofBytes bs
  cases reaction <;> cases notice <;> rfl

theorem NoteEntry.bytes_ofBytes (bs : List Byte) :
    NoteEntry.ofBytes (NoteEntry.ofBytes bs).bytes = NoteEntry.ofBytes bs := by
  generalize stored : NoteEntry.ofBytes bs = r
  have offset : -16 ≤ r.offset ∧ r.offset ≤ 15 := by subst stored; exact clampInt_range (by decide) _
  have enabled : (flag r.enabled != 0) = r.enabled := by cases r.enabled <;> rfl
  simp only [NoteEntry.ofBytes, NoteEntry.bytes, at1, List.getD_cons_zero, List.getD_cons_succ, enabled,
    readBelow_byteOf (by decide : 24 ≤ 255), readBelow_optionByte (by decide : 24 ≤ 255),
    readBelow_optionByte (by decide : 4 ≤ 255), readCurve_byteOf, toInt_byte offset, clampInt_of_range offset,
    Option.isSome_some, Bool.and_true, Option.getD_some]

theorem curveOfBytes_nat2_of_le {w : Nat} (width : w ≤ 2047) : curveOfBytes (nat2 w) = w := by
  simp only [curveOfBytes, nat2, bytes2, at1, at2, List.getD_cons_zero, List.getD_cons_succ, Nat.reduceAdd,
    half_of_bytes, toNat_half (width.trans (by decide : 2047 ≤ 65535)), min_eq_right width]

theorem curveOfBytes_nat2 (bs : List Byte) : curveOfBytes (nat2 (curveOfBytes bs)) = curveOfBytes bs :=
  curveOfBytes_nat2_of_le (min_le_left _ _)

theorem ArticulationItem.bytes_ofBytes (bs : List Byte) :
    ArticulationItem.ofBytes (ArticulationItem.ofBytes bs).bytes = ArticulationItem.ofBytes bs := by
  generalize stored : ArticulationItem.ofBytes bs = r
  have offset : -16 ≤ r.offset ∧ r.offset ≤ 15 := by subst stored; exact clampInt_range (by decide) _
  have curve : (if optionByte r.curve = 0xFF then none else some (readCurve (optionByte r.curve))) = r.curve := by
    cases r.curve with
    | none => rfl
    | some c =>
      have other : byteOf c.val ≠ 0xFF := fun e => by
        have back := toNat_byteOf (n := c.val) (by omega)
        rw [e] at back
        simp at back
        omega
      exact (if_neg other).trans (congrArg some (readCurve_byteOf c))
  simp only [ArticulationItem.ofBytes, ArticulationItem.bytes, at1, List.getD_cons_zero, List.getD_cons_succ, curve,
    toInt_byte offset, clampInt_of_range offset]

end Sys2Proof.Machine
end

section
/-! SUPPORT. The tables and the modes keep every law of the family. -/
namespace Sys2Proof.Machine

/-! ### Banks -/

/-- Every item of a bank is the correction of its own bytes. -/
structure Bank.Stored (b : Bank) : Prop where
  notes : ∀ i : Fin 128, NoteEntry.ofBytes b.notes[i].bytes = b.notes[i]
  curves : ∀ i : Fin 512, curveOfBytes (nat2 b.curves[i]) = b.curves[i]
  articulations : ∀ i : Fin 3, ArticulationItem.ofBytes b.articulations[i].bytes = b.articulations[i]

theorem State.StoredLaw.bankA {s : State} (h : s.StoredLaw) : s.tbs.bankA.Stored :=
  ⟨fun i => (h.notes i).1, fun i => (h.curves i).1, fun i => (h.articulations i).1⟩

theorem State.StoredLaw.bankB {s : State} (h : s.StoredLaw) : s.tbs.bankB.Stored :=
  ⟨fun i => (h.notes i).2, fun i => (h.curves i).2, fun i => (h.articulations i).2⟩

theorem State.StoredLaw.of_banks {s : State}
    (strikers : ∀ n, StrikerRecord.ofBytes (s.strikerRecord n).bytes = s.strikerRecord n)
    (dampers : ∀ d, DamperRecord.ofBytes (s.damperRecord d).bytes = s.damperRecord d)
    (node : NodeRecord.ofBytes s.node.bytes = s.node)
    (supervision : ∀ i : Fin 16, SupervisionItem.ofBytes s.tbs.supervision[i].bytes = s.tbs.supervision[i])
    (a : s.tbs.bankA.Stored) (b : s.tbs.bankB.Stored) : s.StoredLaw :=
  ⟨strikers, dampers, node, supervision, fun i => ⟨a.notes i, b.notes i⟩, fun i => ⟨a.curves i, b.curves i⟩,
    fun i => ⟨a.articulations i, b.articulations i⟩⟩

/-- An element of a vector written at one place has what the others had and the new one has. -/
theorem getElem_setIfInBounds_of {α : Type} {n : Nat} {p : α → Prop} {v : Vector α n} (h : ∀ i : Fin n, p v[i]) {x : α}
    (hx : p x) (k : Nat) (i : Fin n) : p (v.setIfInBounds k x)[i] := by
  rw [Fin.getElem_fin, Vector.getElem_setIfInBounds]
  split
  · exact hx
  · exact h i

theorem getElem_set_of {α : Type} {n : Nat} {p : α → Prop} {v : Vector α n} (h : ∀ i : Fin n, p v[i]) {x : α}
    (hx : p x) (k : Fin n) (i : Fin n) : p (v.set k x)[i] := by
  rw [Fin.getElem_fin, Vector.getElem_set]
  split
  · exact hx
  · exact h i

theorem Tbs.setLoadTables_bankA (b : Bank) (t : Tbs) :
    (t.setLoadTables b).bankA = b ∨ (t.setLoadTables b).bankA = t.bankA := by
  unfold Tbs.setLoadTables
  split
  · exact .inr rfl
  · exact .inl rfl

theorem Tbs.setLoadTables_bankB (b : Bank) (t : Tbs) :
    (t.setLoadTables b).bankB = b ∨ (t.setLoadTables b).bankB = t.bankB := by
  unfold Tbs.setLoadTables
  split
  · exact .inl rfl
  · exact .inr rfl

/-- A bank replaced changes the banks only. -/
@[simp] theorem Tbs.setLoadTables_frame (b : Bank) (t : Tbs) :
    (t.setLoadTables b).strikers = t.strikers ∧ (t.setLoadTables b).dampers = t.dampers ∧
    (t.setLoadTables b).node = t.node ∧ (t.setLoadTables b).supervision = t.supervision ∧
    (t.setLoadTables b).pendingSwap = t.pendingSwap ∧ (t.setLoadTables b).pointer = t.pointer := by
  unfold Tbs.setLoadTables
  split <;> exact ⟨rfl, rfl, rfl, rfl, rfl, rfl⟩

theorem State.StoredLaw.loadTables {s : State} (h : s.StoredLaw) : s.tbs.loadTables.Stored := by
  unfold Tbs.loadTables
  split
  · exact h.bankB
  · exact h.bankA

theorem State.StoredLaw.setLoadTables {s : State} (h : s.StoredLaw) {b : Bank} (hb : b.Stored) :
    (s.onTbs fun t => t.setLoadTables b).StoredLaw := by
  obtain ⟨strikers, dampers, node, supervision, _⟩ := s.tbs.setLoadTables_frame b
  refine .of_banks (fun n => ?_) (fun d => ?_) ?_ (fun i => ?_) ?_ ?_
  · simp only [State.strikerRecord, State.onTbs_tbs, strikers]; exact h.strikers n
  · simp only [State.damperRecord, State.onTbs_tbs, dampers]; exact h.dampers d
  · simp only [State.node, State.onTbs_tbs, node]; exact h.node
  · simp only [State.onTbs_tbs, supervision]; exact h.supervision i
  · rcases s.tbs.setLoadTables_bankA b with e | e <;> rw [State.onTbs_tbs, e]
    · exact hb
    · exact h.bankA
  · rcases s.tbs.setLoadTables_bankB b with e | e <;> rw [State.onTbs_tbs, e]
    · exact hb
    · exact h.bankB

/-! ### The load pointer -/

/-- In LOCKED_OUT no table is writable, so the load pointer is closed. -/
theorem State.PointerLaw.pointer_none {s : State} (h : s.PointerLaw) (locked : s.mdc.mode = .lockedOut) :
    s.tbs.pointer = none := by
  cases hp : s.tbs.pointer with
  | none => rfl
  | some p =>
    have writable := (h.pointer p hp).1
    rw [locked] at writable
    cases writable

namespace Law.Holds

variable {l : Law} {s t : State}

/-- An update of the pending swap, of the load pointer and of the statistics of the tables. -/
theorem onLoading (h : l.Holds s) (f : Tbs → Tbs)
    (same : f s.tbs =
      { s.tbs with pendingSwap := (f s.tbs).pendingSwap, pointer := (f s.tbs).pointer
                   swapCancellations := (f s.tbs).swapCancellations, loadDiscards := (f s.tbs).loadDiscards })
    (swap : (f s.tbs).pendingSwap = s.tbs.pendingSwap ∨ (f s.tbs).pendingSwap = none ∨
      s.scu.sync.notLocked = false ∧ s.mdc.mode ≠ .lockedOut)
    (pointer : (l = .pointer ∨ ∃ b, l = .frozen b) → s.PointerLaw → ∀ p, (f s.tbs).pointer = some p →
      p.table.writable s.mdc.mode = true ∧ p.next < p.table.count) : l.Holds (s.onTbs f) := by
  have strikers : (f s.tbs).strikers = s.tbs.strikers := by rw [same]
  have node : (f s.tbs).node = s.tbs.node := by rw [same]
  have supervision : (f s.tbs).supervision = s.tbs.supervision := by rw [same]
  have stored : s.StoredLaw → (s.onTbs f).StoredLaw := fun h =>
    h.of_parts strikers (by rw [State.onTbs_tbs, same]) node supervision (by rw [State.onTbs_tbs, same])
      (by rw [State.onTbs_tbs, same])
  have striker : s.StrikerLaw → (s.onTbs f).StrikerLaw := fun h => h.of_parts strikers fun _ => id
  have opened : (l = .pointer ∨ ∃ b, l = .frozen b) → s.PointerLaw → (s.onTbs f).PointerLaw := fun reads h =>
    { pointer := pointer reads h
      swap := fun locked => by
        rcases swap with e | e | ⟨_, open_⟩
        · exact e.trans (h.swap locked)
        · exact e
        · exact absurd locked open_ }
  cases l with
  | output => exact State.OutputLaw.of_parts h (fun _ => .inl ⟨rfl, rfl⟩) (fun _ => rfl) rfl id
  | queue => exact State.QueueLaw.of_parts h rfl rfl rfl (List.Sublist.refl _)
  | lamp => exact Eq.trans h (lampPattern_congr (s := s) (t := s.onTbs f) rfl rfl supervision).symm
  | striker => exact striker h
  | clock =>
    rcases swap with e | e | ⟨sure, _⟩
    · exact State.ClockLaw.of_parts h rfl (.inl e)
    · exact State.ClockLaw.of_parts h rfl (.inr e)
    · exact ⟨h.confidence, h.slew, fun out => absurd (sure.symm.trans out) nofun, h.locked, h.holdover⟩
  | pointer => exact opened (.inl rfl) h
  | rotor => exact State.RotorLaw.of_parts h rfl (by rw [State.node, State.onTbs_tbs, node, State.node])
  | stored => exact stored h
  | schedule =>
    obtain ⟨hs, hc, hq⟩ := h
    exact ⟨stored hs, striker hc, hq.of_parts (List.Sublist.refl _) rfl (.inl rfl)
      (by rw [State.node, State.onTbs_tbs, node, State.node])⟩
  | modes m => exact h
  | frozen b =>
    obtain ⟨hp, locked, hb⟩ := h
    have opened := opened (.inr ⟨b, rfl⟩) hp
    refine ⟨opened, locked, ?_⟩
    have closed := opened.pointer_none locked
    have none := opened.swap locked
    rw [State.onTbs_tbs] at closed none ⊢
    have before := hp.pointer_none locked
    have before' := hp.swap locked
    rw [SameTables] at hb ⊢
    rw [hb] at before before'
    rw [same, closed, none, hb]
    simp only at before before'
    rw [← before, ← before']
  | among es =>
    exact State.PendingAmong.of_parts h (stored h.stored) (striker h.striker) (List.Sublist.refl _) (.inl rfl)
  | still m => exact h

theorem setPointer_none (h : l.Holds s) : l.Holds (s.setPointer none) :=
  h.onLoading _ rfl (.inl rfl) fun _ _ => nofun

theorem setPointer_some (h : l.Holds s) (p : LoadPointer)
    (writable : (l = .pointer ∨ ∃ b, l = .frozen b) → p.table.writable s.mdc.mode = true)
    (inside : p.next < p.table.count) : l.Holds (s.setPointer (some p)) :=
  h.onLoading _ rfl (.inl rfl) fun reads _ q hq => by cases hq; exact ⟨writable reads, inside⟩

theorem countDiscard (h : l.Holds s) : l.Holds s.countDiscard := h.onLoading _ rfl (.inl rfl) fun _ h => h.pointer

theorem cancelSwap (h : l.Holds s) : l.Holds (s.onTbs Tbs.cancelSwap) := by
  refine h.onLoading _ ?_ ?_ fun _ h p hp => h.pointer p ?_
  · unfold Tbs.cancelSwap; split <;> rfl
  · unfold Tbs.cancelSwap; split
    · exact .inr (.inl rfl)
    · exact .inl rfl
  · revert hp; unfold Tbs.cancelSwap; split <;> exact id

theorem openPointer (h : l.Holds s) (table : Byte) (start : Nat) : l.Holds (s.openPointer table start) := by
  have closed := h.setPointer_none
  unfold State.openPointer
  simp only []
  split
  · exact closed.countDiscard
  · rename_i t _
    split
    · exact closed.report _
    · rename_i allowed
      rw [not_or, Bool.not_eq_false, not_le] at allowed
      exact closed.setPointer_some _ (fun _ => allowed.1) allowed.2

/-! ### Writes (R166) -/

/-- A write of items, outside LOCKED_OUT: the laws that read them are to be given. -/
theorem of_written (h : l.Holds s) (unfrozen : ∀ b, l ≠ .frozen b) (output : s.OutputLaw → t.OutputLaw)
    (queue : s.QueueLaw → t.QueueLaw) (lamp : s.LampLaw → t.LampLaw) (striker : s.StrikerLaw → t.StrikerLaw)
    (rotor : s.RotorLaw → t.RotorLaw) (stored : s.StoredLaw → t.StoredLaw) (scu : t.scu = s.scu := by simp)
    (sch : t.sch = s.sch := by simp) (mode : t.mdc = s.mdc := by simp)
    (pointer : t.tbs.pointer = s.tbs.pointer := by simp)
    (swap : t.tbs.pendingSwap = s.tbs.pendingSwap := by simp) : l.Holds t := by
  cases l with
  | output => exact output h
  | queue => exact queue h
  | lamp => exact lamp h
  | striker => exact striker h
  | clock => exact State.ClockLaw.of_parts h scu (.inl swap)
  | pointer =>
    exact State.PointerLaw.of_parts h (.inl pointer) (.inr (.inl (by rw [mode]))) (.inl swap) (by rw [mode]; exact id)
  | rotor => exact rotor h
  | stored => exact stored h
  | schedule =>
    obtain ⟨hs, hc, hq⟩ := h
    have among : t.PendingAmong s.sch.entries :=
      ⟨stored hs, striker hc, by rw [sch], by rw [sch, mode]; exact hq.onlyInRun⟩
    exact ⟨stored hs, striker hc, among.scheduleLaw (by rw [State.now, scu]; exact hq.inOrder)⟩
  | modes m => rw [Law.Holds, mode]; exact h
  | frozen b => exact absurd rfl (unfrozen b)
  | among es => exact ⟨stored h.stored, striker h.striker, sch ▸ h.entries, by rw [sch, mode]; exact h.onlyInRun⟩
  | still m => rw [Law.Holds, mode]; exact h

end Law.Holds

theorem State.StoredLaw.onTbs {s : State} (h : s.StoredLaw) (f : Tbs → Tbs)
    (strikers : ∀ n : Fin 24,
      StrikerRecord.ofBytes (f s.tbs).strikers[n].bytes = (f s.tbs).strikers[n] := by exact h.strikers)
    (dampers : ∀ d : Fin 4,
      DamperRecord.ofBytes (f s.tbs).dampers[d].bytes = (f s.tbs).dampers[d] := by exact h.dampers)
    (node : NodeRecord.ofBytes (f s.tbs).node.bytes = (f s.tbs).node := by exact h.node)
    (supervision : ∀ i : Fin 16,
      SupervisionItem.ofBytes (f s.tbs).supervision[i].bytes = (f s.tbs).supervision[i] := by exact h.supervision)
    (bankA : (f s.tbs).bankA = s.tbs.bankA := by rfl) (bankB : (f s.tbs).bankB = s.tbs.bankB := by rfl) :
    (s.onTbs f).StoredLaw :=
  .of_banks strikers dampers node supervision (by rw [State.onTbs_tbs, bankA]; exact h.bankA)
    (by rw [State.onTbs_tbs, bankB]; exact h.bankB)

/-- A striker record written, its channel starting anew (R81). -/
def State.writtenStriker (n : Fin 24) (r : StrikerRecord) (s : State) : State :=
  (s.onTbs fun t => { t with strikers := t.strikers.set n r }).setChannel n ((s.channel n).rewritten r)

theorem State.writtenStriker_channel (n : Fin 24) (r : StrikerRecord) (s : State) (m : Fin 24) :
    (s.writtenStriker n r).channel m = if m = n then (s.channel n).rewritten r else s.channel m := by
  split
  · rename_i e; subst e; exact State.setChannel_channel_same _ _ _
  · rename_i e; exact State.setChannel_channel_other e _ _

theorem State.writtenStriker_strikerRecord (n : Fin 24) (r : StrikerRecord) (s : State) (m : Fin 24) :
    (s.writtenStriker n r).strikerRecord m = if m = n then r else s.strikerRecord m := by
  show (s.tbs.strikers.set n r)[m] = _
  rw [Fin.getElem_fin, Vector.getElem_set]
  by_cases e : m = n
  · subst e; simp
  · rw [if_neg (fun i => e (Fin.ext i.symm)), if_neg e]; rfl

/-- The channel of a record that is written has its law (R81). -/
theorem ChannelLaw.rewritten (now : ShowTime) (bs : List Byte) (c : Channel) :
    ChannelLaw now (StrikerRecord.ofBytes bs) (c.rewritten (StrikerRecord.ofBytes bs)) where
  heat := Nat.zero_le _
  trim := clampInt_range (by decide) _
  runs := ⟨Nat.zero_le _, Nat.zero_le _, .inl rfl⟩
  drive := nofun

namespace Law.Holds

variable {l : Law} {s : State}

theorem writeStriker (h : l.Holds s) (unfrozen : ∀ b, l ≠ .frozen b) (n : Fin 24) (bs : List Byte) :
    l.Holds (s.writtenStriker n (StrikerRecord.ofBytes bs)) := by
  have channel := s.writtenStriker_channel n (StrikerRecord.ofBytes bs)
  have record := s.writtenStriker_strikerRecord n (StrikerRecord.ofBytes bs)
  refine h.of_written unfrozen (fun h => ?_) (fun h => h.of_parts rfl rfl rfl (List.Sublist.refl _)) id (fun h => ?_)
    (fun h => h.of_parts rfl rfl) (fun h => ?_) rfl rfl rfl rfl rfl
  · refine h.of_parts (fun m => ?_) (fun _ => rfl) rfl id
    rw [channel]
    split
    · exact .inr ⟨rfl, rfl⟩
    · exact .inl ⟨rfl, rfl⟩
  · refine ⟨fun m => ?_, fun m => ?_⟩ <;> rw [record]
    · rw [channel]
      split
      · exact ChannelLaw.rewritten _ _ _
      · exact h.channels m
    · split
      · exact min_le_left _ _
      · exact h.widths m
  · have written := h.onTbs (fun t => { t with strikers := t.strikers.set n (StrikerRecord.ofBytes bs) })
      (getElem_set_of (p := fun r => StrikerRecord.ofBytes r.bytes = r) h.strikers (StrikerRecord.bytes_ofBytes bs) n)
    exact written.of_parts rfl rfl rfl rfl rfl rfl

theorem writeDamper (h : l.Holds s) (unfrozen : ∀ b, l ≠ .frozen b) (d : Fin 4) (bs : List Byte) :
    l.Holds ((s.onTbs fun t => { t with dampers := t.dampers.set d (DamperRecord.ofBytes bs) }).setDamper d {}) := by
  refine setDamper (s := s.onTbs fun t => { t with dampers := t.dampers.set d (DamperRecord.ofBytes bs) }) ?_ d
    fun h => h.setDamper d (by simp [Damper.CoilFollows]) fun _ => rfl
  refine h.of_written unfrozen (fun h => h.of_parts (fun _ => .inl ⟨rfl, rfl⟩) (fun _ => rfl) rfl id)
    (fun h => h.of_parts rfl rfl rfl (List.Sublist.refl _)) id (fun h => h.of_parts rfl fun _ => id)
    (fun h => h.of_parts rfl rfl) (fun h => ?_) rfl rfl rfl rfl rfl
  exact h.onTbs _
    (dampers := getElem_set_of (p := fun r => DamperRecord.ofBytes r.bytes = r) h.dampers
      (DamperRecord.bytes_ofBytes bs) d)

theorem writeNode (h : l.Holds s) (unfrozen : ∀ b, l ≠ .frozen b) (bs : List Byte) :
    l.Holds (s.writeNode (NodeRecord.ofBytes bs)) := by
  have written : l.Holds ((s.onTbs fun t => { t with node := NodeRecord.ofBytes bs }).onRot fun x =>
      { x with position := x.position % (NodeRecord.ofBytes bs).stepsPerRev }) := by
    have steps : 1 ≤ (NodeRecord.ofBytes bs).stepsPerRev ∧ (NodeRecord.ofBytes bs).stepsPerRev ≤ 1000 :=
      clampNat_range (by decide) _
    refine h.of_written unfrozen (fun h => ?_) (fun h => h.of_parts rfl rfl rfl (List.Sublist.refl _)) id
      (fun h => h.of_parts rfl fun _ => id) (fun h => ?_) (fun h => ?_) rfl rfl rfl rfl rfl
    · have same : (s.onTbs fun t => { t with node := NodeRecord.ofBytes bs }).OutputLaw :=
        h.of_parts (fun _ => .inl ⟨rfl, rfl⟩) (fun _ => rfl) rfl id
      exact same.onRot _ fun out => (same.resting out).rotor
    · exact ⟨h.rates, steps, Nat.mod_lt _ steps.1, h.cycle, h.output, h.index⟩
    · exact (h.onTbs (fun t => { t with node := NodeRecord.ofBytes bs }) (node := NodeRecord.bytes_ofBytes bs)).of_parts
        rfl rfl rfl rfl rfl rfl
  unfold State.writeNode
  exact (ite written.becomeChainEnd written).evaluateSupply.takeSupplyFilter

theorem writeSupervision (h : l.Holds s) (unfrozen : ∀ b, l ≠ .frozen b) (i : Nat) (bs : List Byte) :
    l.Holds (s.onTbs fun t =>
      { t with supervision := t.supervision.setIfInBounds i (SupervisionItem.ofBytes bs) }).refreshLamp := by
  refine h.of_written unfrozen
    (fun h => h.of_parts (fun n => .inl ⟨by simp [State.channel], by simp [State.channel]⟩)
      (fun d => by simp [State.damper]) (by simp) fun may => by simpa [State.MayDrive] using may)
    (fun h => h.of_parts (by simp) (by simp) (by simp) (by simp)) (fun _ => State.refreshLamp_law _)
    (fun h => h.of_parts (by simp) fun n => by simp [State.channel, State.now])
    (fun h => h.of_parts (by simp) (by simp [State.node])) (fun h => ?_)
  have written := h.onTbs
    (fun t => { t with supervision := t.supervision.setIfInBounds i (SupervisionItem.ofBytes bs) })
    (supervision := getElem_setIfInBounds_of (p := fun r => SupervisionItem.ofBytes r.bytes = r) h.supervision
      (SupervisionItem.bytes_ofBytes bs) i)
  exact written.of_parts (by simp) (by simp) (by simp) (by simp) (by simp) (by simp)

theorem writeBank (h : l.Holds s) (unfrozen : ∀ b, l ≠ .frozen b) (b : Bank) (stored : s.StoredLaw → b.Stored) :
    l.Holds (s.onTbs fun t => t.setLoadTables b) := by
  obtain ⟨strikers, _, node, supervision, swap, pointer⟩ := s.tbs.setLoadTables_frame b
  refine h.of_written unfrozen (fun h => h.of_parts (fun _ => .inl ⟨rfl, rfl⟩) (fun _ => rfl) rfl id)
    (fun h => h.of_parts rfl rfl rfl (List.Sublist.refl _))
    (fun h => Eq.trans h
      (lampPattern_congr (s := s) (t := s.onTbs fun t => t.setLoadTables b) rfl rfl supervision).symm)
    (fun h => h.of_parts strikers fun _ => id)
    (fun h => h.of_parts rfl (by rw [State.node, State.onTbs_tbs, node, State.node]))
    (fun h => h.setLoadTables (stored h)) rfl rfl rfl pointer swap

theorem writeItem (h : l.Holds s) (unfrozen : ∀ b, l ≠ .frozen b) (t : TableId) (i : Nat) (bs : List Byte) :
    l.Holds (s.writeItem t i bs) := by
  unfold State.writeItem
  cases t with
  | striker =>
    simp only []
    split
    · exact h.writeStriker unfrozen _ bs
    · exact h
  | damper =>
    simp only []
    split
    · exact h.writeDamper unfrozen _ bs
    · exact h
  | node => exact h.writeNode unfrozen bs
  | supervision => exact h.writeSupervision unfrozen i bs
  | note =>
    exact h.writeBank unfrozen
      { s.tbs.loadTables with notes := s.tbs.loadTables.notes.setIfInBounds i (NoteEntry.ofBytes bs) }
      fun h => ⟨getElem_setIfInBounds_of (p := fun r => NoteEntry.ofBytes r.bytes = r) h.loadTables.notes
        (NoteEntry.bytes_ofBytes bs) i, h.loadTables.curves, h.loadTables.articulations⟩
  | curve =>
    exact h.writeBank unfrozen
      { s.tbs.loadTables with curves := s.tbs.loadTables.curves.setIfInBounds i (curveOfBytes bs) }
      fun h => ⟨h.loadTables.notes,
        getElem_setIfInBounds_of (p := fun r => curveOfBytes (nat2 r) = r) h.loadTables.curves (curveOfBytes_nat2 bs) i,
        h.loadTables.articulations⟩
  | articulation =>
    exact h.writeBank unfrozen
      { s.tbs.loadTables with
        articulations := s.tbs.loadTables.articulations.setIfInBounds i (ArticulationItem.ofBytes bs) }
      fun h => ⟨h.loadTables.notes, h.loadTables.curves,
        getElem_setIfInBounds_of (p := fun r => ArticulationItem.ofBytes r.bytes = r) h.loadTables.articulations
          (ArticulationItem.bytes_ofBytes bs) i⟩

theorem writeItems (h : l.Holds s) (unfrozen : ∀ b, l ≠ .frozen b) (t : TableId) (k i : Nat) (bs : List Byte) :
    l.Holds (State.writeItems t k i bs s) := by
  induction k generalizing s i bs with
  | zero => exact h
  | succ k ih => exact ih (h.writeItem unfrozen t i _) _ _

end Law.Holds

end Sys2Proof.Machine
end

section
/-! SUPPORT. LOAD_DATA, the modes, the resets and the frames for an owner keep every law of the family. -/
namespace Sys2Proof.Machine

/-! ### LOAD_DATA (R165) -/

/-- A write into a banked table touches the tables only. -/
theorem writeItems_mdc_of_banked {t : TableId} (banked : t.banked = true) (k i : Nat) (bs : List Byte) (s : State) :
    (State.writeItems t k i bs s).mdc = s.mdc := by
  induction k generalizing s i bs with
  | zero => rfl
  | succ k ih =>
    refine (ih _ _ _).trans ?_
    cases t with
    | striker | damper | node | supervision => cases banked
    | note | curve | articulation => rfl

/-- A table that may be written before the write may be after it: a banked one leaves the mode, and outside RUN no
report changes it. -/
theorem writeItems_mode {t : TableId} {s : State} (h : t.writable s.mdc.mode = true) (k i : Nat) (bs : List Byte) :
    (State.writeItems t k i bs s).mdc.mode = s.mdc.mode := by
  by_cases banked : t.banked = true
  · rw [writeItems_mdc_of_banked banked]
  · have stopped : s.mdc.mode ≠ .run := fun run => by
      rw [run] at h
      exact banked h
    have still : Law.Holds s (.still s.mdc.mode) := ⟨stopped, rfl⟩
    exact (still.writeItems (fun _ => nofun) t k i bs).2

theorem afterWrite_writable {t : TableId} {s : State} (h : t.writable s.mdc.mode = true) :
    t.writable (s.afterWrite t).mdc.mode = true := by
  unfold State.afterWrite
  split
  · exact h
  · split
    · rfl
    · exact h

namespace Law.Holds

variable {l : Law} {s : State}

/-- The first configuration write: IDLE becomes CONFIG. -/
theorem enterConfig (h : l.Holds s) (other : ∀ m, l ≠ .still m) (idle : s.mdc.mode = .idle) :
    l.Holds s.enterConfig := by
  cases l with
  | output =>
    refine State.OutputLaw.of_parts h (fun _ => .inl ⟨rfl, rfl⟩) (fun _ => rfl) rfl fun may => ?_
    exact absurd (idle.symm.trans may.1) nofun
  | queue => exact State.QueueLaw.of_parts h rfl rfl rfl (List.Sublist.refl _)
  | lamp =>
    refine Eq.trans h ?_
    unfold State.lampPattern
    rw [idle]
    rfl
  | striker => exact State.StrikerLaw.of_parts h rfl fun _ => id
  | clock => exact State.ClockLaw.of_parts h rfl (.inl rfl)
  | pointer => exact State.PointerLaw.of_parts h (.inl rfl) (.inr (.inr ⟨idle, rfl⟩)) (.inl rfl) nofun
  | rotor => exact State.RotorLaw.of_parts h rfl rfl
  | stored => exact State.StoredLaw.of_parts h rfl rfl rfl rfl rfl rfl
  | schedule =>
    obtain ⟨hs, hc, hq⟩ := h
    have empty := hq.onlyInRun (by rw [idle]; nofun)
    exact ⟨hs.of_parts rfl rfl rfl rfl rfl rfl, hc.of_parts rfl fun _ => id,
      hq.of_parts (List.Sublist.refl _) rfl (.inr (.inr empty)) rfl⟩
  | modes m => exact ModeReach.trans h (.inr ⟨by rw [idle]; nofun, nofun, nofun, fun _ => idle⟩)
  | frozen b => exact absurd (idle.symm.trans h.2.1) nofun
  | among es =>
    exact State.PendingAmong.of_parts h (h.stored.of_parts rfl rfl rfl rfl rfl rfl) (h.striker.of_parts rfl fun _ => id)
      (List.Sublist.refl _) (.inr (.inr (h.onlyInRun (by rw [idle]; nofun))))
  | still m => exact absurd rfl (other m)

theorem afterWrite (h : l.Holds s) (other : ∀ m, l ≠ .still m) (t : TableId) : l.Holds (s.afterWrite t) := by
  unfold State.afterWrite
  split
  · exact h.cancelSwap
  · split
    · rename_i idle
      exact h.enterConfig other idle
    · exact h

theorem loadError (h : l.Holds s) (t : TableId) : l.Holds (s.loadError t) := h.setPointer_none.report _

theorem loadItems (h : l.Holds s) (other : ∀ m, l ≠ .still m) (sequence : Byte) (bs : List Byte) :
    l.Holds (s.loadItems sequence bs) := by
  unfold State.loadItems
  split
  · exact h.countDiscard
  · rename_i p hp
    by_cases unfrozen : ∃ b, l = .frozen b
    · obtain ⟨b, rfl⟩ := unfrozen
      rw [h.1.pointer_none h.2.1] at hp
      cases hp
    · rw [not_exists] at unfrozen
      refine ite (h.loadError _) ?_
      simp only []
      generalize min (bs.length / p.table.itemSize) (p.table.count - p.next) = fits
      have written := h.writeItems unfrozen p.table fits p.next bs
      have noted := ite (p := 0 < fits) (written.afterWrite other p.table) written
      split
      · exact noted.loadError _
      · rename_i inside
        split
        · exact noted.setPointer_none
        · rename_i more
          refine noted.setPointer_some _ (fun reads => ?_) (by simp only []; omega)
          rcases reads with rfl | ⟨b, frozen⟩
          · have writable := (State.PointerLaw.pointer h p hp).1
            have same := writeItems_mode writable fits p.next bs
            simp only []
            split
            · exact afterWrite_writable (same ▸ writable)
            · exact same ▸ writable
          · exact absurd frozen (unfrozen b)

/-! ### BANKSWAP and the modes -/

theorem bankSwap (h : l.Holds s) (t : ShowTime) (digest : Half) : l.Holds (s.bankSwap t digest) := by
  unfold State.bankSwap
  split
  · exact h
  · rename_i unlocked
    split
    · exact h.report _
    · split
      · exact h.swap (.inr unlocked)
      · rename_i later
        rw [not_or, Bool.not_eq_true] at later
        exact h.onLoading _ rfl (.inr (.inr ⟨by simpa using later.2, unlocked⟩)) fun _ h => h.pointer

theorem commitTables (h : l.Holds s) (other : ∀ m, l ≠ .still m) (digest : Half) : l.Holds (s.commitTables digest) := by
  unfold State.commitTables
  split
  · rename_i configuring
    refine ite ?_ (h.report _)
    have untimed := h.onMdc fun c => { c with timer := none }
    have entered : l.Holds ((s.onMdc fun c => { c with timer := none }).setMode .run) :=
      untimed.setMode .run
        (.inl ⟨.inr ⟨by rcases configuring with e | e <;> simp [e], nofun, nofun, nofun⟩, nofun⟩) nofun (.inl other)
        (fun out => absurd rfl out) fun out => absurd rfl out
    exact (entered.onSvu _).clearAll
  · exact h

theorem resumeMode (h : l.Holds s) (other : ∀ m, l ≠ .still m) : l.Holds s.resumeMode := by
  unfold State.resumeMode
  split
  · rename_i safe
    refine ite (h.onMdc _) ?_
    exact h.setMode .run (.inl ⟨.inr ⟨by rw [safe]; nofun, nofun, nofun, nofun⟩, nofun⟩) nofun (.inl other)
      (fun out => absurd rfl out) fun out => absurd rfl out
  · exact h

theorem clearStatistics (h : l.Holds s) : l.Holds s.clearStatistics := by
  have counted := ((h.onSchCounts Sch.clearStatistics).onAcu fun a => { a with refusals := {}, margins := {} }).onStc
    fun t => { t with stray := 0 }
  have turned := counted.onRot (fun r => { r with lastIndexError := 0, indexErrors := 0 })
    (fun h => h.onRot _ fun out => (h.resting out).rotor)
    fun h => h.onRot _ fun r => ⟨r.rates, r.position, r.cycle, r.output, Nat.zero_le _, Nat.zero_le _⟩
  have unrefused := (turned.onCounters fun _ => {}).onMdc fun c => { c with resumeRefused := 0 }
  exact unrefused.onLoading (fun t => { t with swapCancellations := 0, loadDiscards := 0 }) rfl (.inl rfl) fun _ h =>
    h.pointer

/-- Entry into LOCKED_OUT, from CONFIG only (R154). -/
theorem enterLockedOut (h : l.Holds s) (leaves : (∀ a, l ≠ .modes a) ∧ ∀ b, l ≠ .frozen b) (other : ∀ m, l ≠ .still m)
    (stopped : s.mdc.mode ≠ .run) : l.Holds s.enterLockedOut := by
  have unswapped := (h.forceDampers.stopRotor).onLoading (fun t => { t with pendingSwap := none }) rfl (.inr (.inl rfl))
    fun _ h => h.pointer
  refine unswapped.setMode .lockedOut (.inr leaves) (fun _ => rfl) (.inl other) (fun _ out => ?_) fun _ empty => ?_
  · exact out.resting fun may => stopped (by simpa using may.1)
  · exact empty (by simpa using stopped)

theorem takeConfigTimeout (h : l.Holds s) (leaves : ∀ a, l ≠ .modes a) (other : ∀ m, l ≠ .still m) :
    l.Holds s.takeConfigTimeout := by
  unfold State.takeConfigTimeout
  split
  · rename_i fallen
    have config : s.mdc.mode = .config := by
      simp only [State.configReached, Bool.and_eq_true, beq_iff_eq] at fallen
      exact fallen.1
    have reported := (h.onMdc fun c => { c with timer := none }).report .configTimeout
    refine reported.enterLockedOut ⟨leaves, fun b frozen => ?_⟩ other ?_
    · subst frozen
      exact absurd (config.symm.trans h.2.1) nofun
    · rw [report_of_warn rfl]
      simp [config]
  · exact h

/-! ### Resets (R159) -/

theorem beginPowerOn (h : l.Holds s) : l.Holds s.beginPowerOn := (h.beginReset _ _).onSup _

theorem assertLine (h : l.Holds s) : l.Holds s.assertLine := by
  unfold State.assertLine
  exact ite h ((h.beginReset _ _).elsewhere rfl rfl rfl rfl rfl rfl rfl rfl rfl rfl rfl)

theorem releaseLine (h : l.Holds s) : l.Holds s.releaseLine := by
  have released : l.Holds { s with lineAsserted := false } :=
    h.elsewhere rfl rfl rfl rfl rfl rfl rfl rfl rfl rfl rfl
  unfold State.releaseLine
  split
  · split
    · rename_i lasting
      refine released.setResetting _ fun out => out.resting fun may => ?_
      exact absurd (lasting.symm.trans may.2.2) nofun
    · exact released
  · exact h

end Law.Holds

end Sys2Proof.Machine
end

section
/-! SUPPORT. The end of a reset, the commands and the step: the laws that every step keeps. -/
namespace Sys2Proof.Machine

/-! ### The reset values -/

theorem Bank.stored_default : ({} : Bank).Stored where
  notes i := by
    show NoteEntry.ofBytes (Vector.replicate 128 ({} : NoteEntry))[i].bytes = (Vector.replicate 128 ({} : NoteEntry))[i]
    rw [Fin.getElem_fin, Vector.getElem_replicate]
    decide +kernel
  curves i := by
    show curveOfBytes (nat2 (tabulate fun i : Fin 512 => 16 * (i.val % 64))[i])
      = (tabulate fun i : Fin 512 => 16 * (i.val % 64))[i]
    rw [tabulate_get]
    exact curveOfBytes_nat2_of_le (by omega)
  articulations := by decide +kernel

theorem resetValues_channel (c : ResetCause) (s : State) (n : Fin 24) : (s.resetValues c).channel n = {} := by
  show (Vector.replicate 24 ({} : Channel))[n] = {}
  rw [Fin.getElem_fin, Vector.getElem_replicate]

theorem resetValues_damper (c : ResetCause) (s : State) (d : Fin 4) : (s.resetValues c).damper d = {} := by
  show (Vector.replicate 4 ({} : Damper))[d] = {}
  rw [Fin.getElem_fin, Vector.getElem_replicate]

theorem resetValues_strikerRecord (c : ResetCause) (s : State) (n : Fin 24) :
    (s.resetValues c).strikerRecord n = {} := by
  show (Vector.replicate 24 ({} : StrikerRecord))[n] = {}
  rw [Fin.getElem_fin, Vector.getElem_replicate]

theorem resetValues_damperRecord (c : ResetCause) (s : State) (d : Fin 4) : (s.resetValues c).damperRecord d = {} := by
  show (Vector.replicate 4 ({} : DamperRecord))[d] = {}
  rw [Fin.getElem_fin, Vector.getElem_replicate]

theorem resetValues_stored (c : ResetCause) (s : State) : (s.resetValues c).StoredLaw := by
  have node : NodeRecord.ofBytes ({} : NodeRecord).bytes = {} := by decide +kernel
  have supervision : ∀ i : Fin 16, SupervisionItem.ofBytes defaultSupervision[i].bytes = defaultSupervision[i] := by
    decide +kernel
  refine .of_banks (fun n => ?_) (fun d => ?_) node supervision Bank.stored_default Bank.stored_default
  · rw [resetValues_strikerRecord]; decide +kernel
  · rw [resetValues_damperRecord]; decide +kernel

theorem resetValues_striker (c : ResetCause) (s : State) : (s.resetValues c).StrikerLaw := by
  refine ⟨fun n => ?_, fun n => ?_⟩
  · rw [resetValues_channel]
    exact ⟨Nat.zero_le _, by decide, ⟨Nat.zero_le _, Nat.zero_le _, .inl rfl⟩, nofun⟩
  · rw [resetValues_strikerRecord]
    exact Nat.zero_le _

/-- A law of every state, and not one of a course of steps. -/
def Law.OfStates : Law → Prop
  | .output | .queue | .lamp | .striker | .clock | .pointer | .rotor | .stored | .schedule => True
  | .modes _ | .frozen _ | .among _ | .still _ => False

theorem Law.Holds.resetValues {l : Law} (states : l.OfStates) (c : ResetCause) (s : State) :
    l.Holds (s.resetValues c) := by
  cases l with
  | output =>
    refine ⟨fun _ => ⟨fun n => ?_, resetValues_damper c s, ⟨rfl, rfl⟩, rfl, rfl, rfl⟩, fun n => ?_, fun d => ?_⟩
    · rw [resetValues_channel]; exact ⟨rfl, rfl⟩
    · rw [resetValues_channel]; nofun
    · rw [resetValues_damper]; decide
  | queue => exact ⟨Nat.zero_le _, List.Pairwise.nil, Nat.zero_le _, Nat.zero_le _, Nat.zero_le _, List.nodup_nil⟩
  | lamp => rfl
  | striker => exact resetValues_striker c s
  | clock =>
    have still : -64 ≤ (0 : Int) ∧ (0 : Int) ≤ 64 := by decide
    exact ⟨Nat.zero_le _, still, fun _ => ⟨rfl, rfl⟩, nofun, nofun, fun running => absurd rfl running⟩
  | pointer => exact ⟨nofun, fun _ => rfl⟩
  | rotor =>
    have steps : 1 ≤ 200 ∧ 200 ≤ 1000 := by decide
    exact ⟨⟨Nat.zero_le _, Nat.zero_le _⟩, steps, steps.1, ⟨fun _ => rfl, fun _ => rfl⟩, nofun, Nat.zero_le _,
      Nat.zero_le _⟩
  | stored => exact resetValues_stored c s
  | schedule =>
    have stored := resetValues_stored c s
    exact ⟨stored, resetValues_striker c s, Nat.zero_le _, List.Pairwise.nil, nofun, fun _ => rfl,
      stored.setupMargin_le⟩
  | modes | frozen | among | still => exact states.elim

namespace Law.Holds

variable {l : Law} {s : State}

theorem takeResetEnd (h : l.Holds s) (states : l.OfStates) : l.Holds s.takeResetEnd := by
  unfold State.takeResetEnd
  split
  · exact h
  · exact ite (resetValues states _ s).evaluateSupply h

/-! ### Frames and their owners (R123, R125) -/

theorem performance (h : l.Holds s) (awake : s.resetting = none) (e : Byte) (f : Frame) {owner : State → State}
    (owned : ∀ t, l.Holds t → t.resetting = none → l.Holds (owner t)) : l.Holds (s.performance e f owner) := by
  have heard := h.countGood .upstream
  unfold State.performance
  exact (ite (owned _ heard (by simpa using awake)) heard).forwardCopy _ _

theorem management (h : l.Holds s) (p : Byte) (f : Frame) {owner : State → State}
    (owned : ∀ t, l.Holds t → l.Holds (owner t)) : l.Holds (s.management p f owner) := by
  have heard := h.countGood .upstream
  have done := ite (p := (s.countGood .upstream).matchesPosition p = true) (owned _ heard) heard
  unfold State.management
  exact ite done (done.forwardCopy _ _)

theorem takeAsk (h : l.Holds s) (p subject : Byte) (parameters : List Byte) (content : State → List Byte) :
    l.Holds (s.takeAsk p subject parameters content) :=
  h.management _ _ fun _ h => h.answer _ _

theorem takeRestart (h : l.Holds s) (p : Byte) : l.Holds (s.takeRestart p) := by
  have heard := h.countGood .upstream
  unfold State.takeRestart
  exact ite heard.handRestart (heard.forwardCopy _ _)

theorem takeUnknownKind (h : l.Holds s) (kind : Byte) (payload : List Byte) :
    l.Holds (s.takeUnknownKind kind payload) :=
  ((h.countGood .upstream).onCounters _).forwardCopy _ _

theorem takeMalformed (h : l.Holds s) (kind : Byte) (payload : List Byte) : l.Holds (s.takeMalformed kind payload) := by
  have counted := (h.countGood .upstream).onCounters fun c => { c with malformed := c.malformed + 1 }
  unfold State.takeMalformed
  exact ite counted (counted.forwardCopy _ _)

/-! ### Every command -/

/-- A command that is taken unless a reset lasts does what its effect does, or nothing. -/
theorem running (h : l.Holds s) {f : State → State} {t : State} (effect : s.resetting = none → l.Holds (f s))
    (run : Machine.running f s = .next t) : l.Holds t := by
  by_cases awake : s.resetting = none
  · rw [running_awake awake] at run
    cases run
    exact effect awake
  · rw [running_resetting awake] at run
    cases run
    exact h

end Law.Holds

/-- The laws that a command keeps: those of states always, those of a course outside the expiry of the configuration
timer and the end of a reset. -/
def Law.KeptBy (i : Instr) : Law → Prop
  | .output | .queue | .lamp | .striker | .clock | .pointer | .rotor | .stored | .schedule => True
  | .modes _ => i ≠ .configTimeout ∧ i ≠ .resetEnd
  | .frozen _ => i ≠ .resetEnd
  | .among _ | .still _ => False

theorem Law.KeptBy.not_among {l : Law} {i : Instr} (h : l.KeptBy i) (es : List Entry) : l ≠ .among es := by
  rintro rfl; exact h

theorem Law.KeptBy.not_still {l : Law} {i : Instr} (h : l.KeptBy i) (m : Mode) : l ≠ .still m := by
  rintro rfl; exact h

theorem Law.KeptBy.not_modes {l : Law} (h : l.KeptBy .configTimeout) (m : Mode) : l ≠ .modes m := by
  rintro rfl; exact h.1 rfl

theorem Law.KeptBy.ofStates {l : Law} (h : l.KeptBy .resetEnd) : l.OfStates := by
  cases l with
  | modes => exact h.2 rfl
  | frozen => exact h rfl
  | among | still => exact h
  | output | queue | lamp | striker | clock | pointer | rotor | stored | schedule => trivial

theorem exec_holds {l : Law} {s t : State} (i : Instr) (h : l.Holds s) (kept : l.KeptBy i) (run : exec i s = .next t) :
    l.Holds t := by
  have among := kept.not_among
  have still := kept.not_still
  cases i with
  | mark x hop d q => exact h.running (fun awake => h.takeMark awake x hop d q) run
  | play e n f a x c =>
    exact h.running (fun awake => h.performance awake _ _ fun _ h awake => h.takePlay among awake n f a x c) run
  | mute e d a x =>
    exact h.running (fun awake => h.performance awake _ _ fun _ h awake => h.takeMute among awake d a x) run
  | setMasterGain e g => exact h.running (fun awake => h.performance awake _ _ fun _ h _ => h.onAcu _) run
  | setQuietCeiling e c => exact h.running (fun awake => h.performance awake _ _ fun _ h _ => h.onAcu _) run
  | setRotorRate e r => exact h.running (fun awake => h.performance awake _ _ fun _ h awake => h.setRate awake _) run
  | setRotorAlign e x => exact h.running (fun awake => h.performance awake _ _ fun _ h awake => h.setAlign awake x) run
  | flushAll e => exact h.running (fun awake => h.performance awake _ _ fun _ h _ => h.flushSchedule) run
  | flushFromTime e x => exact h.running (fun awake => h.performance awake _ _ fun _ h _ => h.flush _) run
  | bankswap p x d => exact h.running (fun _ => h.management _ _ fun _ h => h.bankSwap x d) run
  | loadOpen p b i => exact h.running (fun _ => h.management _ _ fun _ h => h.openPointer b i.toNat) run
  | loadData p n bs => exact h.running (fun _ => h.management _ _ fun _ h => h.loadItems still n bs) run
  | commit p d => exact h.running (fun _ => h.management _ _ fun _ h => h.commitTables still d) run
  | askStatus p => exact h.running (fun _ => h.takeAsk _ _ _ _) run
  | askFaults p => exact h.running (fun _ => h.takeAsk _ _ _ _) run
  | askCounters p => exact h.running (fun _ => h.takeAsk _ _ _ _) run
  | askStriker p n => exact h.running (fun _ => h.takeAsk _ _ _ _) run
  | askDampers p => exact h.running (fun _ => h.takeAsk _ _ _ _) run
  | askRotor p => exact h.running (fun _ => h.takeAsk _ _ _ _) run
  | askClock p => exact h.running (fun _ => h.takeAsk _ _ _ _) run
  | askLink p => exact h.running (fun _ => h.takeAsk _ _ _ _) run
  | askDigests p => exact h.running (fun _ => h.takeAsk _ _ _ _) run
  | askTable p b k i c => exact h.running (fun _ => h.takeAsk _ _ _ _) run
  | askUnknownSubject p n => exact h.running (fun _ => h.takeAsk _ _ _ _) run
  | clearRecord p k n => exact h.running (fun _ => h.management _ _ fun _ h => h.clearNamed k n) run
  | clearAllFaults p => exact h.running (fun _ => h.management _ _ fun _ h => h.clearAll) run
  | clearFirstFault p => exact h.running (fun _ => h.management _ _ fun _ h => h.onSvu _) run
  | clearStatistics p => exact h.running (fun _ => h.management _ _ fun _ h => h.clearStatistics) run
  | halt p => exact h.running (fun _ => h.management _ _ fun _ h => h.requestSafe) run
  | resume p => exact h.running (fun _ => h.management _ _ fun _ h => h.resumeMode still) run
  | restart p => exact h.running (fun _ => h.takeRestart p) run
  | probe o n hold => exact h.running (fun _ => (h.countGood .upstream).holdProbe o n) run
  | badFrame p => exact h.running (fun _ => h.countBad p) run
  | unknownKindFrame k bs => exact h.running (fun _ => h.takeUnknownKind k bs) run
  | malformedFrame k bs => exact h.running (fun _ => h.takeMalformed k bs) run
  | returnedProbe o n hold => exact h.running (fun _ => h.takeReturnedProbe n hold) run
  | relayFrame k bs => exact h.running (fun _ => h.takeRelayFrame k bs) run
  | downstreamFrameBoundary => exact h.running (fun _ => h.takeDownBoundary) run
  | probeSend => exact h.running (fun _ => h.takeProbeSend) run
  | probeWindowExpiry => exact h.running (fun _ => h.takeProbeWindow) run
  | probeTimeout => exact h.running (fun _ => h.takeProbeTimeout) run
  | upstreamFrameBoundary => exact h.running (fun _ => h.startReturn) run
  | slewGrain => exact h.running (fun awake => h.takeSlewGrain awake) run
  | due => exact h.running (fun awake => h.takeDue awake) run
  | driveEnd n => exact h.running (fun _ => h.takeDriveEnd n) run
  | recoveryEnd n => exact h.running (fun _ => h.takeRecoveryEnd n) run
  | busyUntilLapse n => exact h.running (fun _ => h.takeBusyLapse n) run
  | impactPulse n => exact h.running (fun _ => h.takeImpact n) run
  | impactWindowEnd n => exact h.running (fun _ => h.takeWindowEnd n) run
  | coolingTick => exact h.running (fun _ => h.takeCoolingTick) run
  | travelEnd d => exact h.running (fun _ => h.takeTravelEnd d) run
  | chokeHoldExpiry d => exact h.running (fun _ => h.takeHoldExpiry d) run
  | rampTick => exact h.running (fun _ => h.takeRampTick) run
  | stepRisingEdge => exact h.running (fun _ => h.takeRisingEdge) run
  | stepFallingEdge => exact h.running (fun _ => h.takeFallingEdge) run
  | alignTakesEffect => exact h.running (fun _ => h.takeAlign) run
  | indexPulse => exact h.running (fun _ => h.takeIndexPulse) run
  | swapTimeReached => exact h.running (fun _ => h.takeSwapTime) run
  | supervisionDeadline => exact h.running (fun _ => h.takeSupervision) run
  | holdoverExpiry => exact h.running (fun _ => h.takeHoldoverExpiry) run
  | configTimeout => exact h.running (fun _ => h.takeConfigTimeout kept.not_modes still) run
  | driverFaultInputChange g a =>
    cases run
    exact h.setDriverInput g a
  | driverFaultFilterExpiry g => exact h.running (fun _ => h.takeDriverFilter g) run
  | supplyLevelChange level =>
    cases run
    exact h.setSupplyLevel level
  | supplyFilterExpiry => exact h.running (fun _ => h.takeSupplyFilter) run
  | lampBlinkPhase => exact h.running (fun _ => h.takeBlink) run
  | powerOn =>
    cases run
    exact h.beginPowerOn
  | resetLine =>
    cases run
    exact h.assertLine
  | resetEnd =>
    cases run
    exact h.takeResetEnd kept.ofStates
  | resetLineRelease =>
    cases run
    exact h.releaseLine

/-! ### The step -/

/-- A step runs a command on the state with its queue or its choices moved on, or lets a fine unit pass. -/
theorem step_cases {s t : State} (run : step s = .next t) :
    (∃ i pending choices, exec i { s with pending := pending, choices := choices } = .next t) ∨
    s.fallenEvents = [] ∧ t = s.passFineUnit := by
  unfold step at run
  split at run
  · rename_i c rest _
    exact .inl ⟨c, rest, s.choices, run⟩
  · split at run
    · rename_i c _
      exact .inl ⟨c, s.pending, s.choices + 1, run⟩
    · rename_i none
      cases run
      refine .inr ⟨?_, rfl⟩
      unfold State.ownCommand at none
      split at none
      · simpa using ‹s.fallenEvents.isEmpty = true›
      · exact pick_none.1 none

theorem step_holds {l : Law} {s t : State} (h : l.Holds s) (states : l.OfStates) (run : step s = .next t) :
    l.Holds t := by
  rcases step_cases run with ⟨i, pending, choices, run⟩ | ⟨idle, rfl⟩
  · have moved : l.Holds { s with pending := pending, choices := choices } :=
      h.elsewhere rfl rfl rfl rfl rfl rfl rfl rfl rfl rfl rfl
    refine exec_holds i moved ?_ run
    cases l with
    | modes | frozen | among | still => exact states.elim
    | output | queue | lamp | striker | clock | pointer | rotor | stored | schedule => trivial
  · exact h.passFineUnit idle

/-! ### The statements -/

/-- Settles O52: every operation of a block keeps the law of the outputs, and so does every command. -/
theorem outputLawIsKept : Obligations.OutputLawIsKept :=
  fun _ _ h => step_holds (l := .output) h trivial

/-- Settles O53: an entry enters within the horizon and in order, and leaves when the clock comes to it. -/
theorem scheduleLawIsKept : Obligations.ScheduleLawIsKept :=
  fun _ _ stored striker h run => (step_holds (l := .schedule) ⟨stored, striker, h⟩ trivial run).2.2

/-- Settles O56: by the walk through the commands, for the queues and for the lamp. -/
theorem queueAndLampLawsAreKept : Obligations.QueueAndLampLawsAreKept :=
  ⟨fun _ _ h => step_holds (l := .queue) h trivial, fun _ _ h => step_holds (l := .lamp) h trivial⟩

/-- Settles O57: a drive starts with its width to run, moves with the clock, and is ended before the clock passes it. -/
theorem noDriveRunsPastItsWidth : Obligations.NoDriveRunsPastItsWidth :=
  fun _ _ _ h => step_holds (l := .striker) h trivial

/-- Settles O58: by the walk through the commands, for the clock and for the load pointer. -/
theorem clockAndPointerLawsAreKept : Obligations.ClockAndPointerLawsAreKept :=
  ⟨fun _ _ h => step_holds (l := .clock) h trivial, fun _ _ h => step_holds (l := .pointer) h trivial⟩

/-- Settles O59: by the walk through the commands, for the rotor and for the stored items. -/
theorem rotorAndStoredLawsAreKept : Obligations.RotorAndStoredLawsAreKept :=
  ⟨fun _ _ _ h => step_holds (l := .rotor) h trivial, fun _ _ h => step_holds (l := .stored) h trivial⟩

end Sys2Proof.Machine
end

section
/-! SUPPORT. The modes by their table, the tables of LOCKED_OUT, and the show time of a clock that stays locked. -/
namespace Sys2Proof.Machine

/-! ### Modes and tables -/

/-- The mode after a command by the manual's table, of which two commands have a way of their own (R151). -/
def ModeStep (s t : State) : Prop :=
  t.mdc.mode = s.mdc.mode ∨ (s.resetting ≠ none ∧ t.mdc.mode = .idle) ∨
    (s.mdc.mode = .idle ∧ (t.mdc.mode = .config ∨ t.mdc.mode = .run ∨ t.mdc.mode = .safe)) ∨
    (s.mdc.mode = .config ∧ (t.mdc.mode = .run ∨ t.mdc.mode = .safe ∨ t.mdc.mode = .lockedOut)) ∨
    (s.mdc.mode = .run ∧ t.mdc.mode = .safe) ∨ (s.mdc.mode = .safe ∧ t.mdc.mode = .run)

theorem ModeReach.step {s t : State} (h : ModeReach s.mdc.mode t.mdc.mode) : ModeStep s t := by
  unfold ModeReach at h
  unfold ModeStep
  generalize s.mdc.mode = m at *
  generalize t.mdc.mode = n at *
  cases m <;> cases n <;> simp_all

/-- A reset that ends leaves IDLE; before its end nothing changes. -/
theorem takeResetEnd_cases (s : State) :
    s.takeResetEnd = s ∨
      s.resetting ≠ none ∧ s.takeResetEnd.mdc.mode = .idle ∧ s.takeResetEnd.scu.sync = .unlocked := by
  unfold State.takeResetEnd
  split
  · exact .inl rfl
  · rename_i r lasting
    split
    · exact .inr ⟨by rw [lasting]; nofun, by simp [State.resetValues], by simp [State.resetValues]⟩
    · exact .inl rfl

/-- The expiry of the configuration timer leaves LOCKED_OUT; before it nothing changes (R154). -/
theorem takeConfigTimeout_cases (s : State) :
    s.takeConfigTimeout = s ∨ s.mdc.mode = .config ∧ s.takeConfigTimeout.mdc.mode = .lockedOut := by
  unfold State.takeConfigTimeout
  split
  · rename_i fallen
    simp only [State.configReached, Bool.and_eq_true, beq_iff_eq] at fallen
    exact .inr ⟨fallen.1, State.setMode_mode _ _⟩
  · exact .inl rfl

theorem exec_modeStep {s t : State} (i : Instr) (run : exec i s = .next t) : ModeStep s t := by
  by_cases reset : i = .resetEnd
  · subst reset
    cases run
    rcases takeResetEnd_cases s with same | ⟨lasting, idle, _⟩
    · exact .inl (congrArg (fun u => u.mdc.mode) same)
    · exact .inr (.inl ⟨lasting, idle⟩)
  · by_cases timeout : i = .configTimeout
    · subst timeout
      by_cases awake : s.resetting = none
      · cases (running_awake awake _).symm.trans run
        rcases takeConfigTimeout_cases s with same | ⟨config, locked⟩
        · exact .inl (congrArg (fun u => u.mdc.mode) same)
        · exact .inr (.inr (.inr (.inl ⟨config, .inr (.inr locked)⟩)))
      · cases (running_resetting awake _).symm.trans run
        exact .inl rfl
    · have start : Law.Holds s (.modes s.mdc.mode) := .inl rfl
      exact (exec_holds i start ⟨timeout, reset⟩ run).step

/-- While the mode stays LOCKED_OUT a command changes two statistics of the tables at most. -/
theorem exec_frozen {s t : State} (i : Instr) (h : s.PointerLaw) (before : s.mdc.mode = .lockedOut)
    (after : t.mdc.mode = .lockedOut) (run : exec i s = .next t) : SameTables s.tbs t.tbs := by
  by_cases reset : i = .resetEnd
  · subst reset
    cases run
    rcases takeResetEnd_cases s with same | ⟨_, idle, _⟩
    · rw [same]; rfl
    · exact absurd (idle.symm.trans after) nofun
  · have frozen : Law.Holds s (.frozen s.tbs) := ⟨h, before, rfl⟩
    exact (exec_holds i frozen reset run).2.2

/-! ### The show time of a clock that stays locked -/

/-- The clock follows a MARK: in LOCKED or HOLDOVER. -/
def SyncState.Follows (x : SyncState) : Prop := x = .locked ∨ x = .holdover

/-- A clock that stays locked or in holdover advances by two grains at most. -/
def ClockAdvances (s t : State) : Prop :=
  s.scu.sync.Follows → t.scu.sync.Follows →
    t.scu.now = s.scu.now ∨ t.scu.now = s.scu.now + 1 ∨ t.scu.now = s.scu.now + 2

theorem ClockAdvances.of_scu {s t : State} (h : t.scu = s.scu) : ClockAdvances s t :=
  fun _ _ => .inl (by rw [h])

theorem performance_scu {owner : State → State} (owned : ∀ t, (owner t).scu = t.scu) (e : Byte) (f : Frame)
    (s : State) : (s.performance e f owner).scu = s.scu := by
  unfold State.performance
  simp only []
  split <;> simp [owned]

theorem management_scu {owner : State → State} (owned : ∀ t, (owner t).scu = t.scu) (p : Byte) (f : Frame)
    (s : State) : (s.management p f owner).scu = s.scu := by
  unfold State.management
  simp only []
  split <;> split <;> simp [owned]

/-- A MARK after which the clock is still locked or in holdover has not stepped it (R105, R107). -/
theorem disciplineClock_advances (x : ShowTime) (d : Nat) (q : Quality) (s : State) :
    ClockAdvances s (s.disciplineClock x d q) := by
  intro before after
  left
  revert after
  unfold State.disciplineClock
  simp only []
  rcases before with sync | sync <;> rw [sync] <;> simp only []
  · unfold State.markLocked
    simp only []
    split
    · split
      · simp [State.enterSync_scu]
      · simp
    · split <;> simp
  · unfold State.markHoldover
    split
    · simp [State.enterSync_scu]
    · simp [State.enterSync_scu, Scu.stepped, SyncState.Follows]

theorem takeMark_advances (x : ShowTime) (hop : Byte) (d : BitVec 24) (q : Byte) (s : State) :
    ClockAdvances s (s.takeMark x hop d q) := by
  have disciplined := disciplineClock_advances x d.toNat (readQuality q) ((s.countGood .upstream).takePosition hop)
  simpa [ClockAdvances, State.takeMark] using disciplined

theorem takeSlewGrain_advances (s : State) : ClockAdvances s s.takeSlewGrain := by
  intro _ _
  unfold State.takeSlewGrain
  simp only []
  split
  · split
    · right; right
      simp [settle_frame, Scu.slewStep, add_assoc]
    · left; rfl
  · left; rfl

theorem takeSupervision_advances (s : State) : ClockAdvances s s.takeSupervision := by
  intro _ _
  unfold State.takeSupervision
  left
  split
  · simp [State.enterSync_scu]
  · rfl

theorem takeHoldoverExpiry_advances (s : State) : ClockAdvances s s.takeHoldoverExpiry := by
  intro _ _
  unfold State.takeHoldoverExpiry
  left
  split
  · simp [State.enterSync_scu]
  · rfl

theorem ClockAdvances.running {s t : State} {f : State → State} (h : ClockAdvances s (f s))
    (run : Machine.running f s = .next t) : ClockAdvances s t := by
  by_cases awake : s.resetting = none
  · rw [running_awake awake] at run
    cases run
    exact h
  · rw [running_resetting awake] at run
    cases run
    exact .of_scu rfl

theorem clearNamed_scu (k n : Byte) (s : State) : (s.clearNamed k n).scu = s.scu := by
  unfold State.clearNamed
  split <;> simp

theorem takeRestart_scu (p : Byte) (s : State) : (s.takeRestart p).scu = s.scu := by
  unfold State.takeRestart
  simp only []
  split <;> simp

theorem takeMalformed_scu (k : Byte) (bs : List Byte) (s : State) : (s.takeMalformed k bs).scu = s.scu := by
  unfold State.takeMalformed
  simp only []
  split <;> simp

theorem takeRelayFrame_scu (k : Byte) (bs : List Byte) (s : State) : (s.takeRelayFrame k bs).scu = s.scu := by
  unfold State.takeRelayFrame
  split
  · split <;> simp [State.takeReturnedProbe]
  · simp

theorem takeAsk_scu (p subject : Byte) (parameters : List Byte) (content : State → List Byte) (s : State) :
    (s.takeAsk p subject parameters content).scu = s.scu :=
  management_scu (fun _ => by simp) _ _ s

theorem assertLine_scu (s : State) : s.assertLine.scu = s.scu := by
  unfold State.assertLine
  split <;> simp

theorem releaseLine_scu (s : State) : s.releaseLine.scu = s.scu := by
  unfold State.releaseLine
  split
  · split <;> rfl
  · rfl

theorem exec_advances {s t : State} (i : Instr) (run : exec i s = .next t) : ClockAdvances s t := by
  have heard : ∀ {owner : State → State} (e : Byte) (f : Frame), (∀ t, (owner t).scu = t.scu) →
      ClockAdvances s (s.performance e f owner) := fun e f owned => .of_scu (performance_scu owned e f s)
  have managed : ∀ {owner : State → State} (p : Byte) (f : Frame), (∀ t, (owner t).scu = t.scu) →
      ClockAdvances s (s.management p f owner) := fun p f owned => .of_scu (management_scu owned p f s)
  cases i with
  | mark x hop d q => exact (takeMark_advances x hop d q s).running run
  | play e n f a x c => exact (heard _ _ fun _ => by simp).running run
  | mute e d a x => exact (heard _ _ fun _ => by simp).running run
  | setMasterGain e g => exact (heard (owner := State.setGain g) _ _ fun _ => rfl).running run
  | setQuietCeiling e c => exact (heard (owner := State.setCeiling c) _ _ fun _ => rfl).running run
  | setRotorRate e r => exact (heard _ _ fun _ => by simp).running run
  | setRotorAlign e x => exact (heard _ _ fun _ => by simp).running run
  | flushAll e => exact (heard (owner := State.flushSchedule) _ _ fun _ => rfl).running run
  | flushFromTime e x => exact (heard (owner := State.flushFrom x) _ _ fun _ => rfl).running run
  | bankswap p x d => exact (managed _ _ fun _ => by simp).running run
  | loadOpen p b i => exact (managed _ _ fun _ => by simp).running run
  | loadData p n bs => exact (managed _ _ fun _ => by simp).running run
  | commit p d => exact (managed _ _ fun _ => by simp).running run
  | askStatus p => exact (ClockAdvances.of_scu (takeAsk_scu _ _ _ _ s)).running run
  | askFaults p => exact (ClockAdvances.of_scu (takeAsk_scu _ _ _ _ s)).running run
  | askCounters p => exact (ClockAdvances.of_scu (takeAsk_scu _ _ _ _ s)).running run
  | askStriker p n => exact (ClockAdvances.of_scu (takeAsk_scu _ _ _ _ s)).running run
  | askDampers p => exact (ClockAdvances.of_scu (takeAsk_scu _ _ _ _ s)).running run
  | askRotor p => exact (ClockAdvances.of_scu (takeAsk_scu _ _ _ _ s)).running run
  | askClock p => exact (ClockAdvances.of_scu (takeAsk_scu _ _ _ _ s)).running run
  | askLink p => exact (ClockAdvances.of_scu (takeAsk_scu _ _ _ _ s)).running run
  | askDigests p => exact (ClockAdvances.of_scu (takeAsk_scu _ _ _ _ s)).running run
  | askTable p b k i c => exact (ClockAdvances.of_scu (takeAsk_scu _ _ _ _ s)).running run
  | askUnknownSubject p n => exact (ClockAdvances.of_scu (takeAsk_scu _ _ _ _ s)).running run
  | clearRecord p k n => exact (managed _ _ (clearNamed_scu k n)).running run
  | clearAllFaults p => exact (managed _ _ fun _ => by simp).running run
  | clearFirstFault p => exact (managed (owner := State.emptyFirst) _ _ fun _ => rfl).running run
  | clearStatistics p => exact (managed (owner := State.clearStatistics) _ _ fun _ => rfl).running run
  | halt p => exact (managed _ _ fun _ => by simp).running run
  | resume p => exact (managed _ _ fun _ => by simp).running run
  | restart p => exact (ClockAdvances.of_scu (takeRestart_scu p s)).running run
  | probe o n hold => exact (ClockAdvances.of_scu (by simp [State.takeProbe])).running run
  | badFrame p => exact (ClockAdvances.of_scu (by simp)).running run
  | unknownKindFrame k bs => exact (ClockAdvances.of_scu (by simp [State.takeUnknownKind])).running run
  | malformedFrame k bs => exact (ClockAdvances.of_scu (takeMalformed_scu k bs s)).running run
  | returnedProbe o n hold => exact (ClockAdvances.of_scu (by simp [State.takeReturnedProbe])).running run
  | relayFrame k bs => exact (ClockAdvances.of_scu (takeRelayFrame_scu k bs s)).running run
  | downstreamFrameBoundary => exact (ClockAdvances.of_scu (by simp)).running run
  | probeSend => exact (ClockAdvances.of_scu (by simp)).running run
  | probeWindowExpiry => exact (ClockAdvances.of_scu (by simp)).running run
  | probeTimeout => exact (ClockAdvances.of_scu (by simp)).running run
  | upstreamFrameBoundary => exact (ClockAdvances.of_scu (by simp)).running run
  | slewGrain => exact (takeSlewGrain_advances s).running run
  | due => exact (ClockAdvances.of_scu (by simp)).running run
  | driveEnd n => exact (ClockAdvances.of_scu (by simp)).running run
  | recoveryEnd n => exact (ClockAdvances.of_scu (by simp)).running run
  | busyUntilLapse n => exact (ClockAdvances.of_scu (by simp)).running run
  | impactPulse n => exact (ClockAdvances.of_scu (by simp)).running run
  | impactWindowEnd n => exact (ClockAdvances.of_scu (by simp)).running run
  | coolingTick => exact (ClockAdvances.of_scu (by simp)).running run
  | travelEnd d => exact (ClockAdvances.of_scu (by simp)).running run
  | chokeHoldExpiry d => exact (ClockAdvances.of_scu (by simp)).running run
  | rampTick => exact (ClockAdvances.of_scu (by simp)).running run
  | stepRisingEdge => exact (ClockAdvances.of_scu (by simp)).running run
  | stepFallingEdge => exact (ClockAdvances.of_scu (by simp)).running run
  | alignTakesEffect => exact (ClockAdvances.of_scu (by simp)).running run
  | indexPulse => exact (ClockAdvances.of_scu (by simp)).running run
  | swapTimeReached => exact (ClockAdvances.of_scu (by simp)).running run
  | supervisionDeadline => exact (takeSupervision_advances s).running run
  | holdoverExpiry => exact (takeHoldoverExpiry_advances s).running run
  | configTimeout => exact (ClockAdvances.of_scu (by simp)).running run
  | driverFaultInputChange g a =>
    cases run
    exact .of_scu (by simp)
  | driverFaultFilterExpiry g => exact (ClockAdvances.of_scu (by simp)).running run
  | supplyLevelChange level =>
    cases run
    exact .of_scu (by simp)
  | supplyFilterExpiry => exact (ClockAdvances.of_scu (by simp)).running run
  | lampBlinkPhase => exact (ClockAdvances.of_scu (by simp)).running run
  | powerOn =>
    cases run
    exact .of_scu (by simp [State.beginPowerOn])
  | resetLine =>
    cases run
    exact .of_scu (assertLine_scu s)
  | resetEnd =>
    cases run
    rcases takeResetEnd_cases s with same | ⟨_, _, unlocked⟩
    · exact .of_scu (congrArg State.scu same)
    · intro _ after
      rw [SyncState.Follows, unlocked] at after
      exact absurd after (by decide)
  | resetLineRelease =>
    cases run
    exact .of_scu (releaseLine_scu s)

theorem passFineUnit_advances (s : State) : ClockAdvances s s.passFineUnit := by
  intro _ _
  unfold State.passFineUnit
  simp only []
  split
  · exact .inr (.inl rfl)
  · exact .inl rfl

/-- Settles O60: the modes and the tables are followed through every command as laws of its course, the show time
block by block. -/
theorem modesChangeByTheirTable : Obligations.ModesChangeByTheirTable := by
  intro s t pointer run
  rcases step_cases run with ⟨i, pending, choices, run⟩ | ⟨_, rfl⟩
  · have moved : State.PointerLaw { s with pending := pending, choices := choices } := ⟨pointer.pointer, pointer.swap⟩
    have modes := exec_modeStep i run
    have tables := fun before after => exec_frozen i moved before after run
    have advances := exec_advances i run
    exact ⟨modes, tables, advances⟩
  · have kept : s.passFineUnit.mdc = s.mdc ∧ s.passFineUnit.tbs = s.tbs := by
      unfold State.passFineUnit
      simp only []
      split <;> exact ⟨rfl, rfl⟩
    exact ⟨.inl (by rw [kept.1]), fun _ _ => by rw [kept.2], passFineUnit_advances s⟩

end Sys2Proof.Machine
end

section
/-! SUPPORT. Commands and frames: how a command reaches its owner, and the node's own addresses. -/
namespace Sys2Proof.Machine

/-! ### The queue, and that every command answers -/

/-- Settles O1: a step runs the command at the front of the queue, by definition. -/
theorem stepRunsTheFrontCommand : Obligations.StepRunsTheFrontCommand := fun _ _ _ => rfl

/-- Settles O3: every command's arm answers a next state, the reset's and the input pins' outright and the others
through `running`. -/
theorem everyCommandAnswersANextState : Obligations.EveryCommandAnswersANextState := by
  intro c s
  cases c <;> exact ⟨_, rfl⟩

/-! ### Commands by their owners -/

/-- A performance frame but a MARK is taken as its parts say. -/
theorem exec_performance {c : Instr} {e : Byte} {f : Frame} {owner : State → State}
    (h : performanceParts c = some (e, f, owner)) (s : State) : exec c s = running (State.performance e f owner) s := by
  cases c <;> simp only [performanceParts, reduceCtorEq, Option.some.injEq, Prod.mk.injEq] at h <;>
    (obtain ⟨rfl, rfl, rfl⟩ := h; rfl)

/-- A management frame but a RESTART is taken as its parts say. -/
theorem exec_management {c : Instr} {p : Byte} {f : Frame} {owner : State → State}
    (h : managementParts c = some (p, f, owner)) (s : State) : exec c s = running (State.management p f owner) s := by
  cases c <;> simp only [managementParts, reduceCtorEq, Option.some.injEq, Prod.mk.injEq] at h <;>
    (obtain ⟨rfl, rfl, rfl⟩ := h; rfl)

/-- An ASK is taken as its parts say. -/
theorem exec_ask {c : Instr} {p subject : Byte} {params : List Byte} {content : State → List Byte}
    (h : askParts c = some (p, subject, params, content)) (s : State) :
    exec c s = running (State.takeAsk p subject params content) s := by
  cases c <;> simp only [askParts, reduceCtorEq, Option.some.injEq, Prod.mk.injEq] at h <;>
    (obtain ⟨rfl, rfl, rfl, rfl⟩ := h; rfl)

/-! ### Addresses (R123, R125) -/

theorem matchesEnsemble_iff (e : Byte) (s : State) : s.matchesEnsemble e = true ↔ s.HearsEnsemble e := by
  simp only [State.matchesEnsemble, Bool.or_eq_true, beq_iff_eq, or_assoc, eq_comm (a := some e)]

theorem matchesPosition_iff (p : Byte) (s : State) : s.matchesPosition p = true ↔ p = s.liu.position ∨ p = 255 := by
  simp [State.matchesPosition]

theorem consumes_iff (p : Byte) (s : State) : s.consumes p = true ↔ s.Owns p := by
  simp [State.consumes, bne_iff_ne]

/-- Counting a good frame leaves the chain position. -/
@[simp] theorem countGood_position (p : Port) (s : State) : (s.countGood p).liu.position = s.liu.position := by
  cases p <;> simp only [State.countGood, State.leakFell] <;> split <;> simp [State.reportEnd]

/-- Counting a good frame leaves the ensemble addresses the node hears. -/
theorem countGood_hears (e : Byte) (p : Port) (s : State) : (s.countGood p).HearsEnsemble e ↔ s.HearsEnsemble e := by
  simp [State.HearsEnsemble, State.node]

theorem countGood_owns (q : Byte) (p : Port) (s : State) : (s.countGood p).Owns q ↔ s.Owns q := by
  simp [State.Owns]

section
variable {s : State} {e p : Byte} (f : Frame) (owner : State → State)

/-- A heard performance frame reaches its owner after it is counted, and goes on. -/
theorem performance_heard (h : s.HearsEnsemble e) :
    s.performance e f owner = (owner (s.countGood .upstream)).forwardCopy f false := by
  have hears := (matchesEnsemble_iff _ _).2 ((countGood_hears e .upstream s).2 h)
  simp [State.performance, hears]

/-- A performance frame for others only goes on. -/
theorem performance_unheard (h : ¬s.HearsEnsemble e) :
    s.performance e f owner = (s.countGood .upstream).forwardCopy f false := by
  have unheard : (s.countGood .upstream).matchesEnsemble e ≠ true := fun m =>
    h ((countGood_hears e .upstream s).1 ((matchesEnsemble_iff _ _).1 m))
  simp [State.performance, unheard]

/-- A management frame of the node's own position stops at its owner. -/
theorem management_own (h : s.Owns p) : s.management p f owner = owner (s.countGood .upstream) := by
  have consumed := (consumes_iff _ _).2 ((countGood_owns p .upstream s).2 h)
  have matched : (s.countGood .upstream).matchesPosition p = true := by simp [matchesPosition_iff, h.1]
  simp [State.management, consumed, matched]

/-- A management frame for everyone reaches its owner and goes on. -/
theorem management_all (h : p = 255) :
    s.management p f owner = (owner (s.countGood .upstream)).forwardCopy f false := by
  have passed : (s.countGood .upstream).consumes p = false := by simp [State.consumes, h]
  have matched : (s.countGood .upstream).matchesPosition p = true := by simp [matchesPosition_iff, h]
  simp [State.management, passed, matched]

/-- A management frame for another node only goes on. -/
theorem management_other (h : p ≠ 255) (h' : p ≠ s.liu.position) :
    s.management p f owner = (s.countGood .upstream).forwardCopy f false := by
  have passed : (s.countGood .upstream).consumes p = false := by simp [State.consumes, h']
  have unmatched : (s.countGood .upstream).matchesPosition p = false := by
    simpa [State.matchesPosition, h'] using h
  simp [State.management, passed, unmatched]

end

/-- Settles O8: the frame is counted, its owner takes it where the address is the node's, and it goes on unless it
carries the node's own position. -/
theorem framesReachTheirOwners : Obligations.FramesReachTheirOwners := by
  intro s awake heard
  refine ⟨fun c e f owner parts => ?_, fun c p f owner parts => ?_⟩
  · rw [exec_performance parts, running_awake awake]
    exact ⟨fun h => by rw [performance_heard f owner h], fun h => by rw [performance_unheard f owner h]⟩
  · rw [exec_management parts, running_awake awake]
    exact ⟨fun h => by rw [management_own f owner h], fun h => by rw [management_all f owner h],
      fun h h' => by rw [management_other f owner h h']⟩

/-- A heard performance frame's command, run outside a reset. -/
theorem exec_heard {c : Instr} {e : Byte} {f : Frame} {owner : State → State} {s : State}
    (parts : performanceParts c = some (e, f, owner)) (awake : s.Awake) (h : s.HearsEnsemble e) :
    exec c s = .next ((owner (s.countGood .upstream)).forwardCopy f false) :=
  ((framesReachTheirOwners s awake).1 c e f owner parts).1 h

/-- A management command of the node's own position, run outside a reset. -/
theorem exec_own {c : Instr} {p : Byte} {f : Frame} {owner : State → State} {s : State}
    (parts : managementParts c = some (p, f, owner)) (awake : s.Awake) (h : s.Owns p) :
    exec c s = .next (owner (s.countGood .upstream)) :=
  ((framesReachTheirOwners s awake).2 c p f owner parts).1 h

/-- An answer joins its queue and may start, or is counted as unanswered where 8 wait (R131). -/
theorem answer_eq (subject : Byte) (content : State → List Byte) (s : State) :
    s.answer subject content =
      if s.liu.answer.length < 8 then
        (s.onLiu fun l =>
          { l with answer := l.answer ++ [⟨0x40, l.position :: subject :: content s⟩] }).kickReturn
      else s.onCounters fun c => { c with unansweredAsks := c.unansweredAsks + 1 } := rfl

/-- Settles O9: an ASK is a management frame whose owner answers from the counted state. -/
theorem asksAreAnsweredAtTheirArrival : Obligations.AsksAreAnsweredAtTheirArrival := by
  intro c p subject params content s parts awake heard queued unanswered answered
  have owner : State.answer subject content heard = answered := answer_eq subject content heard
  rw [exec_ask parts, running_awake awake, State.takeAsk]
  refine ⟨fun h => ?_, fun h => ?_, fun h h' => ?_⟩
  · rw [management_own _ _ h, owner]
  · rw [management_all _ _ h, owner]
  · rw [management_other _ _ h h']

/-! ### SET, FLUSH and the statistics -/

theorem rotorTakes_iff (s : State) :
    s.rotorTakes = true ↔ s.node.rotorEnabled = true ∧ s.mdc.mode = .run ∧ s.sup.band ≠ .cut := by
  simp [State.rotorTakes, and_assoc]

/-- The rotor of the counted state takes commands as that of the state before (R92). -/
theorem countGood_rotorTakes (p : Port) (s : State) : (s.countGood p).rotorTakes = s.rotorTakes := by
  simp [State.rotorTakes, State.node]

theorem min_eq_clamp (top n : Nat) : min top n = if top < n then top else n := by
  simp only [Nat.min_def]; split <;> split <;> omega

/-- Settles O11: each SET is a performance frame whose owner writes one register, the rotor's only where it takes
commands. -/
theorem controlsSetTheirValues : Obligations.ControlsSetTheirValues := by
  intro s e awake hears heard rotorTakes
  have takes : heard.rotorTakes = true ↔ rotorTakes := by
    rw [show heard.rotorTakes = s.rotorTakes from countGood_rotorTakes .upstream s]; exact rotorTakes_iff s
  have refuses (h : ¬rotorTakes) : heard.rotorTakes = false := by rw [← Bool.not_eq_true, takes]; exact h
  refine ⟨fun g => ?_, fun c => ?_, fun r => ⟨fun h => ?_, fun h => ?_⟩,
    fun t => ⟨fun h after => ?_, fun h => ?_⟩⟩
  · rw [exec_heard rfl awake hears]; rfl
  · rw [exec_heard rfl awake hears, ← min_eq_clamp]; rfl
  · rw [exec_heard rfl awake hears, ← min_eq_clamp, State.setRate, if_pos (takes.2 h)]; rfl
  · rw [exec_heard rfl awake hears, State.setRate, if_neg (by simp [heard, refuses h] )]; rfl
  · have future : reached t heard.now = false := by simpa [reached, State.now, heard] using after
    rw [exec_heard rfl awake hears, State.setAlign,
      if_pos (by rw [Bool.and_eq_true]; simp [takes.2 h, future, heard])]; rfl
  · have ignored : (heard.rotorTakes && !reached t heard.now) = false := by
      rcases h with h | past
      · simp [refuses h]
      · have : reached t heard.now = true := by simpa [reached, State.now, heard] using past
        simp [this]
    rw [exec_heard rfl awake hears, State.setAlign, if_neg (by simp [heard, ignored])]; rfl

/-- A flush of everything empties the schedule and counts all of it (R49). -/
theorem flushSchedule_eq (s : State) : s.flushSchedule =
    { s with
      sch :=
        { s.sch with
          entries := []
          flushed := s.sch.flushed + BitVec.ofNat 32 (s.sch.entries.countP Entry.isStrike)
          damperFlushed :=
            s.sch.damperFlushed + BitVec.ofNat 32 (s.sch.entries.countP fun (x : Entry) => !x.isStrike) } } := by
  simp [State.flushSchedule, State.onSch, Sch.flush, strikeCount, damperCount, asCount]

/-- Settles O12: a FLUSH splits the entries by its condition and counts those that go. -/
theorem flushRemovesWhatItSelects : Obligations.FlushRemovesWhatItSelects := by
  refine ⟨flushSchedule_eq, ?_⟩
  intro s e awake hears heard
  refine ⟨?_, fun t => ?_⟩
  · rw [exec_heard rfl awake hears, flushSchedule_eq]
    simp [heard]
    rfl
  · intro kept gone
    have keep : (fun x : Entry => !!before x.target t) = fun x => decide (signedDiff x.target t < 0) := by
      funext x; simp [before]
    have go : (fun x : Entry => !before x.target t) = fun x => decide (0 ≤ signedDiff x.target t) := by
      funext x; simp [before, ← decide_not]
    rw [exec_heard rfl awake hears]
    simp only [State.flushFrom, State.onSch, Sch.flush, keep, go]
    simp [heard, kept, gone]
    rfl

theorem clearStatistics_eq (s : State) : s.clearStatistics =
    { s with
      sch :=
        { entries := s.sch.entries
          accepted := BitVec.ofNat 32 (s.sch.entries.countP Entry.isStrike)
          started := 0, dropped := ⟨0, 0, 0, 0, 0, 0⟩, flushed := 0
          damperAccepted := 0, damperPerformed := 0, damperRedundant := 0, damperDropped := 0
          damperFlushed := 0 }
      acu := { s.acu with refusals := ⟨0, 0, 0, 0, 0, 0, 0, 0, 0⟩, margins := ⟨none, none, none⟩ }
      stc := { s.stc with stray := 0 }
      rot := { s.rot with lastIndexError := 0, indexErrors := 0 }
      liu := { s.liu with counters := ⟨0, 0, 0, 0, 0, 0, 0, 0, 0, 0⟩ }
      mdc := { s.mdc with resumeRefused := 0 }
      tbs := { s.tbs with swapCancellations := 0, loadDiscards := 0 } } := by
  simp only [State.clearStatistics, State.onSch, State.onAcu, State.onStc, State.onRot, State.onCounters, State.onLiu,
    State.onMdc, State.onTbs]
  rfl

/-- Settles O28: the two CLEARs write the listed registers of the counted state. -/
theorem clearStatisticsSetsTheListedCounters : Obligations.ClearStatisticsSetsTheListedCounters := by
  intro s p awake own heard
  have entries : heard.sch.entries = s.sch.entries := by simp [heard]
  refine ⟨?_, ?_⟩
  · rw [exec_own rfl awake own, clearStatistics_eq, entries]
  · rw [exec_own rfl awake own]; rfl

/-! ### The reset values (R159) -/

/-- Settles O4: the registers are read off; every law holds of the reset values. -/
theorem resetStateHoldsTheResetValues : Obligations.ResetStateHoldsTheResetValues := by
  have same : State.reset = State.reset.resetValues .power := rfl
  have law (l : Law) (h : l.OfStates) : l.Holds State.reset := same ▸ Law.Holds.resetValues h .power State.reset
  have windows : State.reset.WindowLaw := ⟨List.Pairwise.nil, nofun⟩
  refine ⟨rfl, rfl, rfl, rfl, fun n => resetValues_strikerRecord .power State.reset n,
    fun d => resetValues_damperRecord .power State.reset d, rfl, fun i => ?supervision, rfl, fun i => ?notes,
    fun i => ?curves, fun i => ?articulations, rfl, rfl, rfl, rfl, rfl, rfl, rfl,
    fun n => resetValues_channel .power State.reset n, rfl, rfl, fun d => resetValues_damper .power State.reset d,
    rfl, rfl, rfl, rfl, rfl, rfl, rfl, rfl, rfl, fun g => ?drivers, rfl, rfl, rfl, law .output trivial,
    (law .schedule trivial).2.2, rfl, law .queue trivial, law .striker trivial, law .clock trivial,
    law .pointer trivial, law .lamp trivial, law .rotor trivial, law .stored trivial, windows⟩
  case supervision => revert i; decide
  case notes => exact Vector.getElem_replicate ..
  case curves => exact tabulate_get ..
  case articulations => exact Vector.getElem_replicate ..
  case drivers => exact Vector.getElem_replicate ..

end Sys2Proof.Machine
end

section
/-! SUPPORT. Resets, and the frames that are taken without an owner. -/
namespace Sys2Proof.Machine

/-! ### Resets (R159) -/

/-- A reset begins by cutting off what moves and is sent. -/
theorem beginReset_eq (cause : ResetCause) (endsAt : Option Nat) (s : State) :
    s.beginReset cause endsAt = { s.cutOff with resetting := some { cause := cause, endsAt := endsAt } } := by
  simp only [State.beginReset, State.forceDampers, State.onDmc, State.onRot, State.onSvu, State.onLiu, State.cutOff,
    State.mapChannels, State.onStc]
  rfl

theorem handRestart_eq (s : State) : s.handRestart =
    { s.cutOff with resetting := some { cause := .link, endsAt := some (s.localTime + 10 * 16) } } :=
  beginReset_eq _ _ _

/-- The commands that are taken while a reset lasts: the reset's own and those of the input pins. -/
def takenInReset : Instr → Bool
  | .powerOn | .resetLine | .resetLineRelease | .resetEnd => true
  | .supplyLevelChange _ | .driverFaultInputChange _ _ => true
  | _ => false

/-- Every other command is one that is taken unless a reset lasts. -/
theorem exec_running {c : Instr} (h : takenInReset c = false) : ∃ f, ∀ s, exec c s = running f s := by
  cases c with
  | powerOn | resetLine | resetLineRelease | resetEnd | supplyLevelChange | driverFaultInputChange => cases h
  | _ => exact ⟨_, fun _ => rfl⟩

/-- The level is judged from NORMAL with the default thresholds at the end of a reset (R147, R150). -/
theorem resetValues_evaluateSupply (c : ResetCause) (s : State) : (s.resetValues c).evaluateSupply =
    { s.resetValues c with
      sup :=
        { (s.resetValues c).sup with
          candidate :=
            if s.sup.level.toNat < 120 then some { band := .cut, start := 0 }
            else if s.sup.level.toNat < 160 then some { band := .low, start := 0 }
            else none } } := by
  have indicated : (s.resetValues c).indicated =
      if s.sup.level.toNat < 120 then .cut else if s.sup.level.toNat < 160 then .low else .normal := rfl
  simp only [State.evaluateSupply, State.onSup, indicated]
  by_cases cut : s.sup.level.toNat < 120
  · simp only [if_pos cut]; rfl
  · by_cases low : s.sup.level.toNat < 160
    · simp only [if_neg cut, if_pos low]; rfl
    · simp only [if_neg cut, if_neg low]; rfl

/-- Settles O5: every reset begins through `beginReset`, and `running` keeps what a reset lasts over. -/
theorem resetsBeginByCuttingOff : Obligations.ResetsBeginByCuttingOff := by
  intro s
  refine ⟨?_, fun line => ?_, fun line => ?_, fun e line r => ?_, fun line other => ?_, fun line => ?_,
    fun p awake own => ?_, fun p awake passes => ?_, fun c => ?_⟩
  · show Host.Outcome.next s.beginPowerOn = _
    rw [State.beginPowerOn, beginReset_eq]
    rfl
  · show Host.Outcome.next s.assertLine = _
    rw [State.assertLine, if_neg (by simp [line]), beginReset_eq]
  · show Host.Outcome.next s.assertLine = _
    rw [State.assertLine, if_pos line]
  · show Host.Outcome.next s.releaseLine = _
    rw [State.releaseLine, if_pos line, r]
    rfl
  · show Host.Outcome.next s.releaseLine = _
    rw [State.releaseLine, if_pos line]
    split
    · rename_i e h; exact absurd h (other e)
    · rfl
  · show Host.Outcome.next s.releaseLine = _
    rw [State.releaseLine, if_neg (by simp [line])]
  · intro heard
    have consumed : heard.consumes p = true := (consumes_iff _ _).2 ((countGood_owns p .upstream s).2 own)
    show running (State.takeRestart p) s = _
    rw [running_awake awake, State.takeRestart, if_pos consumed, handRestart_eq]
    simp [heard]
  · have passed : ¬(s.countGood .upstream).consumes p = true := fun c =>
      passes ((countGood_owns p .upstream s).1 ((consumes_iff _ _).1 c))
    show running (State.takeRestart p) s = _
    rw [running_awake awake, State.takeRestart, if_neg passed]
    simp [State.matchesPosition]
  · intro ofPinsOrResets asleep other
    obtain ⟨f, taken⟩ := exec_running (c := c) other
    rw [taken, running_resetting asleep]

/-- Settles O6: the reset values are those of `State.reset`, and the level is then judged from NORMAL. -/
theorem resetEndGivesEveryBlockItsResetValues : Obligations.ResetEndGivesEveryBlockItsResetValues := by
  intro s r resetting
  refine ⟨fun ends => ?_, fun cause early => ?_⟩
  · have reached : s.resetEndReached = true := by
      obtain ⟨cause, endsAt⟩ := r
      rw [State.resetEndReached, resetting]
      rcases ends with rfl | ⟨e, rfl, past⟩
      · rfl
      · cases cause <;> simp [past]
    show Host.Outcome.next s.takeResetEnd = _
    simp only [State.takeResetEnd, resetting, reached, if_true, resetValues_evaluateSupply]
    rfl
  · have lasts : s.resetEndReached = false := by
      obtain ⟨cause', endsAt⟩ := r
      rw [State.resetEndReached, resetting]
      cases cause' <;> cases endsAt <;> simp_all
    show Host.Outcome.next s.takeResetEnd = _
    simp [State.takeResetEnd, resetting, lasts]

end Sys2Proof.Machine
end

section
/-! SUPPORT. The link: frames on the two ports, the leak counters, the two transmitters. -/
namespace Sys2Proof.Machine

variable {s : State}

/-! ### What the operations of the link do -/

theorem holdProbe_eq (o n : Byte) (s : State) : s.holdProbe o n =
    ({ s with
        liu :=
          { s.liu with
              slot := some { originator := o, number := n, receivedAt := s.localTime } } } : State).kickReturn :=
  rfl

/-- A queued copy waits while a frame is in transmission. -/
theorem kickForward_busy (h : s.liu.sendingDown ≠ none) : s.kickForward = s := by
  unfold State.kickForward
  cases s.liu.forward.length with
  | zero => rfl
  | succ n => simp [State.startForward, Option.isSome_iff_ne_none, h]

theorem kickForward_nil (h : s.liu.forward = []) : s.kickForward = s := by
  simp [State.kickForward, h, State.startForward]

/-- An idle transmitter takes the head of its queue, to send it or to discard it. -/
theorem kickForward_cons {i : ForwardItem} {rest : List ForwardItem} (awake : s.Awake) (idle : s.liu.sendingDown = none)
    (h : s.liu.forward = i :: rest) :
    s.kickForward =
      if s.discardsAtHead i then
        ((s.onLiu fun l => { l with forward := rest }).discardCopy i).startForward rest.length
      else (s.onLiu fun l => { l with forward := rest }).transmitCopy i := by
  have awake : s.resetting = none := awake
  simp [State.kickForward, h, State.startForward, awake, idle]

theorem takeDownBoundary_idle (h : s.liu.sendingDown = none) : s.takeDownBoundary = s.kickForward := by
  simp [State.takeDownBoundary, h]

theorem takeDownBoundary_sending {t : Sending} (h : s.liu.sendingDown = some t) :
    s.takeDownBoundary = (s.endSending t.job).kickForward := by
  simp [State.takeDownBoundary, h]

theorem exec_downBoundary (awake : s.Awake) : exec .downstreamFrameBoundary s = .next s.takeDownBoundary :=
  running_awake awake _

/-- A transmission that ends leaves an idle transmitter, at a boundary again. -/
theorem exec_downBoundary_of_ended {t : Sending} {ended : State} (awake : s.Awake) (h : s.liu.sendingDown = some t)
    (ends : s.endSending t.job = ended) (awake' : ended.Awake) (idle : ended.liu.sendingDown = none) :
    exec .downstreamFrameBoundary s = exec .downstreamFrameBoundary ended := by
  rw [exec_downBoundary awake, exec_downBoundary awake', takeDownBoundary_sending h, ends, takeDownBoundary_idle idle]

/-- Nothing starts while a reset lasts. -/
theorem startForward_resetting (h : s.resetting ≠ none) (n : Nat) : s.startForward n = s := by
  cases n <;> simp [State.startForward, Option.isSome_iff_ne_none, h]

/-- A head that is discarded leaves an idle transmitter, at a boundary again. -/
theorem exec_downBoundary_of_discarded {i : ForwardItem} {rest : List ForwardItem} {gone : State} (awake : s.Awake)
    (idle : s.liu.sendingDown = none) (h : s.liu.forward = i :: rest) (discards : s.discardsAtHead i = true)
    (discarded : (s.onLiu fun l => { l with forward := rest }).discardCopy i = gone) (awake' : gone.Awake)
    (idle' : gone.liu.sendingDown = none) (forward : gone.liu.forward = rest) :
    exec .downstreamFrameBoundary s = exec .downstreamFrameBoundary gone := by
  rw [exec_downBoundary awake, exec_downBoundary awake', takeDownBoundary_idle idle, takeDownBoundary_idle idle',
    kickForward_cons awake idle h, if_pos discards, discarded, State.kickForward, forward]

/-! ### Frames that no owner takes -/

/-- A copy that is queued starts at an idle transmitter's boundary. -/
theorem forwardCopy_room (h : s.liu.forward.length < 4) (f : Frame) (r : Bool) :
    s.forwardCopy f r =
      ({ s with liu := { s.liu with forward := s.liu.forward ++ [.copy f r] } } : State).kickForward :=
  if_pos h

/-- A copy that finds the queue full is discarded (R126). -/
theorem forwardCopy_full (h : 4 ≤ s.liu.forward.length) (f : Frame) (r : Bool) :
    s.forwardCopy f r = s.discardCopy (.copy f r) :=
  if_neg (Nat.not_lt.2 h)

theorem discardCopy_restart (f : Frame) (s : State) : s.discardCopy (.copy f true) =
    { ({ s with
          liu :=
            { s.liu with
              counters :=
                { s.liu.counters with forwardDiscards := s.liu.counters.forwardDiscards + 1 } } } : State).cutOff with
      resetting := some { cause := .link, endsAt := some (s.localTime + 10 * 16) } } :=
  handRestart_eq _

/-- Settles O31: each command counts the frame and itself, and then holds the PROBE, forwards the frame, or neither. -/
theorem probesAndUnreadFramesAreTaken : Obligations.ProbesAndUnreadFramesAreTaken := by
  intro s awake heard counted was
  have time : heard.localTime = s.localTime := by simp [heard]
  refine ⟨fun o n hold => ?_, fun k bs => running_awake awake _, fun bs => running_awake awake _, fun k bs other => ?_,
    fun f r => ⟨fun room => ⟨fun busy => ?_, fun idle => ?_, fun idle empty chain found => ?_⟩,
      fun full => ⟨?_, ?_⟩⟩⟩
  · rw [← time]; exact running_awake awake _
  · refine (running_awake awake (State.takeMalformed k bs)).trans ?_
    rw [State.takeMalformed, if_neg (c := k = Kind.probe) other]
    rfl
  · rw [forwardCopy_room room]; exact kickForward_busy busy
  · let queued : State := { s with liu := { s.liu with forward := s.liu.forward ++ [.copy f r] } }
    have awake' : queued.Awake := awake
    show exec .downstreamFrameBoundary queued = _
    rw [exec_downBoundary awake', show queued.takeDownBoundary = _ from takeDownBoundary_idle idle,
      forwardCopy_room room]
  · let queued : State := { s with liu := { s.liu with forward := s.liu.forward ++ [.copy f r] } }
    have head : queued.liu.forward = .copy f r :: [] := by simp [queued, empty]
    have sent : ¬queued.discardsAtHead (.copy f r) = true := by
      rw [show queued.discardsAtHead (.copy f r) = (s.node.chainEnd || s.pdu.downstreamLost && true) from rfl,
        chain, found]
      decide
    rw [forwardCopy_room room, show queued.kickForward = _ from kickForward_cons awake idle head, if_neg sent, ← empty]
    rfl
  · rintro rfl; rw [forwardCopy_full full]; rfl
  · rintro rfl; rw [forwardCopy_full full]; exact discardCopy_restart f s

/-- Counting a good frame leaves the queues of the return lane. -/
theorem countGood_relay (p : Port) (s : State) : (s.countGood p).liu.relay = s.liu.relay := by
  cases p <;> simp only [State.countGood, State.leakFell] <;> split <;> simp [State.reportEnd]

theorem takeRelayFrame_other {k : Byte} (h : k ≠ Kind.probe) (bs : List Byte) (s : State) :
    s.takeRelayFrame k bs = (s.countGood .downstream).relay ⟨k, bs⟩ := if_neg h

theorem takeRelayFrame_malformed {k : Byte} {bs : List Byte} (hk : k = Kind.probe) (h : bs.length ≠ 4) (s : State) :
    s.takeRelayFrame k bs =
      (s.countGood .downstream).onCounters fun c => { c with malformed := c.malformed + 1 } := by
  unfold State.takeRelayFrame
  rw [if_pos hk]
  split
  · exact absurd rfl h
  · rfl

/-- Settles O33: a relayed frame is counted, and queued, lost or malformed. -/
theorem relayFramesJoinTheRelayQueue : Obligations.RelayFramesJoinTheRelayQueue := by
  intro s k bs awake heard counted was
  have relay : heard.liu.relay = s.liu.relay := countGood_relay .downstream s
  have run : exec (.relayFrame k bs) s = .next (s.takeRelayFrame k bs) := running_awake awake _
  refine ⟨fun other room => ?_, fun other full => ?_, fun probe short => ?_⟩
  · rw [run, takeRelayFrame_other other, State.relay, if_pos (relay.symm ▸ room), ← relay]
    rfl
  · rw [run, takeRelayFrame_other other, State.relay, if_neg (relay.symm ▸ Nat.not_lt.2 full)]
    rfl
  · rw [run, takeRelayFrame_malformed probe short]
    rfl

/-! ### The leak counters (R120, R121) -/

theorem satAdd_eq (top n k : Nat) : satAdd top n k = if top < n + k then top else n + k := min_eq_clamp ..

theorem leakRose_up_starts (clear : s.liu.errorsUp = false) (high : 64 ≤ s.liu.leakUp) :
    s.leakRose .upstream =
      ({ s with liu := { s.liu with errorsUp := true } } : State).report (.linkErrors .upstream) :=
  if_pos ⟨clear, high⟩

theorem leakRose_up_stays (h : s.liu.errorsUp = true ∨ s.liu.leakUp < 64) : s.leakRose .upstream = s :=
  if_neg fun ⟨clear, high⟩ => h.elim (fun errors => absurd (clear.symm.trans errors) Bool.false_ne_true)
    (Nat.not_lt.2 high)

theorem leakFell_up_ends (errors : s.liu.errorsUp = true) (low : s.liu.leakUp < 32) :
    s.leakFell .upstream =
      ({ s with liu := { s.liu with errorsUp := false } } : State).reportEnd (.linkErrors .upstream) :=
  if_pos ⟨errors, low⟩

theorem leakFell_up_stays (h : s.liu.errorsUp = false ∨ 32 ≤ s.liu.leakUp) : s.leakFell .upstream = s :=
  if_neg fun ⟨errors, low⟩ => h.elim (fun clear => absurd (clear.symm.trans errors) Bool.false_ne_true)
    (fun high => absurd low (Nat.not_lt.2 high))

theorem leakRose_down_starts (clear : s.liu.errorsDown = false) (high : 64 ≤ s.liu.leakDown) :
    s.leakRose .downstream =
      ({ s with liu := { s.liu with errorsDown := true } } : State).report (.linkErrors .downstream) :=
  if_pos ⟨clear, high⟩

theorem leakRose_down_stays (h : s.liu.errorsDown = true ∨ s.liu.leakDown < 64) : s.leakRose .downstream = s :=
  if_neg fun ⟨clear, high⟩ => h.elim (fun errors => absurd (clear.symm.trans errors) Bool.false_ne_true)
    (Nat.not_lt.2 high)

theorem leakFell_down_ends (errors : s.liu.errorsDown = true) (low : s.liu.leakDown < 32) :
    s.leakFell .downstream =
      ({ s with liu := { s.liu with errorsDown := false } } : State).reportEnd (.linkErrors .downstream) :=
  if_pos ⟨errors, low⟩

theorem leakFell_down_stays (h : s.liu.errorsDown = false ∨ 32 ≤ s.liu.leakDown) : s.leakFell .downstream = s :=
  if_neg fun ⟨errors, low⟩ => h.elim (fun clear => absurd (clear.symm.trans errors) Bool.false_ne_true)
    (fun high => absurd low (Nat.not_lt.2 high))

/-- Settles O30: the counter moves, and LINK_ERRORS starts or ends where its bound is met. -/
theorem framesMoveTheLeakCounters : Obligations.FramesMoveTheLeakCounters := by
  intro s
  refine ⟨?_, ?_, ?_, ?_⟩
  · intro n bad awake
    have counted : s.countBad .upstream = (bad s.liu.errorsUp).leakRose .upstream := by
      simp only [State.countBad, satAdd_eq]; rfl
    rw [show exec (.badFrame .upstream) s = .next (s.countBad .upstream) from running_awake awake _, counted]
    refine ⟨fun clear high => ?_, fun h => ?_⟩
    · rw [show (bad _).leakRose _ = _ from leakRose_up_starts clear high]
    · rw [show (bad _).leakRose _ = _ from leakRose_up_stays h]
  · intro n bad awake
    have counted : s.countBad .downstream = (bad s.liu.errorsDown).leakRose .downstream := by
      simp only [State.countBad, satAdd_eq]; rfl
    rw [show exec (.badFrame .downstream) s = .next (s.countBad .downstream) from running_awake awake _, counted]
    refine ⟨fun clear high => ?_, fun h => ?_⟩
    · rw [show (bad _).leakRose _ = _ from leakRose_down_starts clear high]
    · rw [show (bad _).leakRose _ = _ from leakRose_down_stays h]
  · intro good
    have counted : s.countGood .upstream = (good s.liu.errorsUp).leakFell .upstream := rfl
    exact ⟨fun errors low => counted.trans (leakFell_up_ends errors low),
      fun h => counted.trans (leakFell_up_stays h)⟩
  · intro good
    have counted : s.countGood .downstream = (good s.liu.errorsDown).leakFell .downstream := rfl
    exact ⟨fun errors low => counted.trans (leakFell_down_ends errors low),
      fun h => counted.trans (leakFell_down_stays h)⟩

/-! ### The downstream boundary (R116, R125 to R127) -/

theorem forwardedDelay_eq (m : WaitingMark) (s : State) :
    let total := m.pathDelay + (s.localTime - m.receivedAt + Config.markTransmitTime) + s.pdu.average
    s.forwardedDelay m = if total ≤ 16777215 then total else 16777215 := by
  simp only [State.forwardedDelay, Config.maxPathDelay, Nat.min_def]
  split <;> split <;> omega

theorem Quality.lower_code : ∀ p q : Quality,
    (p.lower q).code = if p.code.toNat ≤ q.code.toNat then p.code else q.code := by
  intro p q; cases p <;> cases q <;> rfl

/-- A MARK's transmission begins with the fields formed now (R116). -/
theorem transmitCopy_mark (m : WaitingMark) (s : State) : s.transmitCopy (.mark m) =
    { s with
      liu :=
        { s.liu with
          sendingDown :=
            some
              { frame := markFrame m.showTime m.hop (BitVec.ofNat 24 (s.forwardedDelay m))
                  (m.quality.lower s.pdu.quality).code
                job := .mark m.opensProbe } } } := rfl

/-- Settles O34: at an idle boundary the head is sent or discarded, the next head then being looked at by the same
boundary; a frame in transmission ends first. -/
theorem downstreamBoundaryStartsTheHead : Obligations.DownstreamBoundaryStartsTheHead := by
  intro s awake starting discarding
  refine ⟨fun idle => ⟨fun empty => ?_, fun m rest head => ⟨fun chain => ?_, fun chain => ?_⟩,
    fun f r rest head => ⟨fun chain found => ?_, fun gone plain => ?_, fun gone restart => ?_⟩⟩, fun f j sending => ?_⟩
  · rw [exec_downBoundary awake, takeDownBoundary_idle idle, kickForward_nil empty]
  · intro total delay quality
    have sent : ¬s.discardsAtHead (.mark m) = true := by simp [State.discardsAtHead, chain, ForwardItem.isMark]
    rw [exec_downBoundary awake, takeDownBoundary_idle idle, kickForward_cons awake idle head, if_neg sent,
      transmitCopy_mark, forwardedDelay_eq, Quality.lower_code]
    rfl
  · refine exec_downBoundary_of_discarded awake idle head (by simp [State.discardsAtHead, chain]) ?_ awake idle rfl
    obtain ⟨showTime, hop, delay, quality, at_, opens⟩ := m
    cases opens <;> rfl
  · have sent : ¬s.discardsAtHead (.copy f r) = true := by simp [State.discardsAtHead, chain, found]
    rw [exec_downBoundary awake, takeDownBoundary_idle idle, kickForward_cons awake idle head, if_neg sent]
    rfl
  · subst plain
    refine exec_downBoundary_of_discarded awake idle head ?_ rfl awake idle rfl
    simpa [State.discardsAtHead, ForwardItem.isMark] using gone
  · subst restart
    have discards : s.discardsAtHead (.copy f true) = true := by
      simpa [State.discardsAtHead, ForwardItem.isMark] using gone
    rw [exec_downBoundary awake, takeDownBoundary_idle idle, kickForward_cons awake idle head, if_pos discards,
      discardCopy_restart, startForward_resetting (by simp)]
    rfl
  · intro ended
    refine ⟨fun plain => ?_, fun restart => ?_, fun mark due => ?_, fun mark undue => ?_, fun o probe out => ?_,
      fun probe out => ?_⟩
    · refine exec_downBoundary_of_ended awake sending ?_ awake rfl
      rcases plain with rfl | rfl <;> rfl
    · subst restart
      rw [exec_downBoundary awake, takeDownBoundary_sending sending, State.kickForward]
      rw [show s.endSending (.copy true) = ended.handRestart from rfl, handRestart_eq, startForward_resetting (by simp)]
    · subst mark
      refine exec_downBoundary_of_ended awake sending ?_ awake rfl
      simp [State.endSending, due]
      rfl
    · subst mark
      refine exec_downBoundary_of_ended awake sending ?_ awake rfl
      simp [State.endSending, undue]
      rfl
    · subst probe
      refine exec_downBoundary_of_ended awake sending ?_ awake rfl
      simp [State.endSending, out, State.onPdu, State.onLiu, ended]
    · subst probe
      refine exec_downBoundary_of_ended awake sending ?_ awake rfl
      rw [show s.endSending .probe
        = { ended with pdu := { s.pdu with outstanding := s.pdu.outstanding.map fun o =>
            { o with sentAt := some s.localTime } } } from rfl, out, Option.map_none, ← out]

/-! ### The upstream boundary (R112, R128, R129) -/

/-- The returned PROBE goes first. -/
theorem startReturn_slot {p : HeldProbe} (slot : s.liu.slot = some p) : s.startReturn =
    { s with
      liu :=
        { s.liu with
          slot := none
          sendingUp := some (probeFrame p.originator p.number (BitVec.ofNat 16 (s.probeHold p))) } } := by
  simp only [State.startReturn, State.onLiu]
  split <;> simp_all

/-- The relay queue's head goes at its turn, or with no answer waiting. -/
theorem startReturn_relay {f : Frame} {rest : List Frame} (slot : s.liu.slot = none) (relay : s.liu.relay = f :: rest)
    (first : s.liu.turn = .relay ∨ s.liu.answer = []) : s.startReturn =
    { s with liu := { s.liu with relay := rest, turn := .answer, sendingUp := some f } } := by
  simp only [State.startReturn, State.onLiu]
  split <;> simp_all

/-- The answer queue's head goes at its turn, or with nothing to relay. -/
theorem startReturn_answer {f : Frame} {rest : List Frame} (slot : s.liu.slot = none)
    (answer : s.liu.answer = f :: rest) (first : s.liu.turn = .answer ∨ s.liu.relay = []) : s.startReturn =
    { s with liu := { s.liu with answer := rest, turn := .relay, sendingUp := some f } } := by
  simp only [State.startReturn, State.onLiu]
  split <;> simp_all

/-- With nothing to send there is idle fill. -/
theorem startReturn_nothing (slot : s.liu.slot = none) (relay : s.liu.relay = []) (answer : s.liu.answer = []) :
    s.startReturn = { s with liu := { s.liu with sendingUp := none } } := by
  simp only [State.startReturn, State.onLiu]
  split <;> simp_all

/-- Settles O35: the transmitter's choice is a match on slot, turn and the two queues. -/
theorem upstreamBoundaryArbitrates : Obligations.UpstreamBoundaryArbitrates := by
  intro s awake l after
  have run : exec .upstreamFrameBoundary s = .next s.startReturn := running_awake awake _
  refine ⟨fun p slot => ?_, fun slot => ⟨fun f rest relay first => ?_, fun f rest answer first => ?_,
    fun relay answer => ?_⟩, fun busy => ?_, fun idle => ?_⟩
  · intro hold
    have saturated : s.probeHold p = hold := by
      simp only [hold, State.probeHold, Nat.min_def]; split <;> split <;> omega
    exact run.trans (by rw [startReturn_slot slot, saturated]; rfl)
  · exact run.trans (by rw [startReturn_relay slot relay first])
  · exact run.trans (by rw [startReturn_answer slot answer first])
  · exact run.trans (by rw [startReturn_nothing slot relay answer])
  · exact if_neg (by simpa [Option.isNone_iff_eq_none] using busy)
  · rw [run, State.kickReturn, if_pos (by simpa [Option.isNone_iff_eq_none] using idle)]

/-! ### Returned probes (R113 to R115) -/

/-- A returned PROBE without its outstanding one changes nothing. -/
theorem probeReturned_other {n : Byte} (h : ∀ x, s.pdu.outstanding = some x → x.number ≠ n) (hold : Half) :
    s.probeReturned n hold = s := by
  unfold State.probeReturned
  split
  · rfl
  · rename_i o out; rw [if_neg (h o out)]

theorem tdiv_eq_ite (n : Int) (k : Nat) : n.tdiv k = if 0 ≤ n then n / k else -(-n / k) := by
  split
  · exact Int.tdiv_eq_ediv_of_nonneg ‹_›
  · rw [← Int.tdiv_eq_ediv_of_nonneg (by omega), Int.neg_tdiv, Int.neg_neg]

/-- How the average takes a sample (R114). -/
theorem takeSample_eq (sample : Nat) (p : Pdu) :
    let away : Int := (sample : Int) - p.average
    let count := if p.samples < 255 then p.samples + 1 else 255
    p.takeSample sample =
      if p.samples = 0 ∨ 64 < away ∨ away < -64 then
        { p with average := sample, samples := 1, quality := .coarse }
      else
        { p with
          average := (p.average + (if 0 ≤ away then away / 16 else -(-away / 16))).toNat
          samples := count
          quality := if 64 ≤ count then .fine else p.quality } := by
  intro away count
  have far : 64 < away.natAbs ↔ 64 < away ∨ away < -64 := by omega
  have counted : satAdd 255 p.samples 1 = count := by
    simp only [satAdd, count, Nat.min_def]; split <;> split <;> omega
  have moved : away.tdiv 16 = if 0 ≤ away then away / 16 else -(-away / 16) := tdiv_eq_ite away 16
  simp only [Pdu.takeSample, counted, far, moved, away]

/-- Settles O32: the sample is computed from the loop, and the average takes it. -/
theorem returnedProbeGivesASample : Obligations.ReturnedProbeGivesASample := by
  intro s o n hold awake heard
  have run : exec (.returnedProbe o n hold) s = .next (heard.probeReturned n hold) := running_awake awake _
  have pdu : heard.pdu = s.pdu := by simp [heard]
  have time : heard.localTime = s.localTime := by simp [heard]
  refine ⟨fun other => ?_, fun sentAt out => ?_⟩
  · rw [run, probeReturned_other (pdu ▸ other)]
  · intro net sample away count averaged found
    have sampled : probeSample (heard.probeLoop ⟨n, some sentAt⟩) hold.toNat = sample := by
      simp only [probeSample, State.probeLoop, time, sample, net]
      split <;> omega
    have takes : s.pdu.takeSample sample = averaged := takeSample_eq sample s.pdu
    have returned : heard.probeReturned n hold =
        if s.pdu.downstreamLost then found.reportEnd .downstreamLost else found := by
      simp only [State.probeReturned, pdu, out, if_true, sampled, State.onPdu, takes]
      rfl
    exact ⟨fun kept => by rw [run, returned, kept]; rfl, fun lost => by rw [run, returned, if_pos lost]⟩

/-! ### Probes of the node's own (R111, R115) -/

/-- Settles O36: the probe's conditions are read off its window and its send instant. -/
theorem probesAreSentSkippedAndMissed : Obligations.ProbesAreSentSkippedAndMissed := by
  intro s awake
  have send : exec .probeSend s = .next s.takeProbeSend := running_awake awake _
  have skip : exec .probeWindowExpiry s = .next s.takeProbeWindow := running_awake awake _
  have miss : exec .probeTimeout s = .next s.takeProbeTimeout := running_awake awake _
  refine ⟨fun x due => ⟨fun early idle empty out chain => ?_, fun h => ?_, fun late => ?_, fun early => ?_⟩,
    fun n t out => ?_⟩
  · have sendable : s.probeSendable = true := by simp [State.probeSendable, due, early, idle, empty, out, chain]
    rw [send, State.takeProbeSend, if_pos sendable]
    rfl
  · have unsendable : ¬s.probeSendable = true := by
      rcases h with h | h | h
      · simp [State.probeSendable, due, h]
      · simp [State.probeSendable, due, h]
      · simp [State.probeSendable, due, Nat.not_le.2 h]
    rw [send, State.takeProbeSend, if_neg unsendable]
  · rw [skip, State.takeProbeWindow, if_pos (by simp [State.probeWindowReached, due, late])]
    rfl
  · rw [skip, State.takeProbeWindow, if_neg (by simp [State.probeWindowReached, due, early])]
  · intro lost
    refine ⟨fun early => ?_, fun late => ?_⟩
    · have early : ¬s.probeTimeoutReached = true := by
        simp only [State.probeTimeoutReached, out, decide_eq_true_eq]; exact Nat.not_le.2 early
      rw [miss, State.takeProbeTimeout, if_neg early]
    · have late : s.probeTimeoutReached = true := by
        simp only [State.probeTimeoutReached, out, decide_eq_true_eq]; exact late
      rw [miss, State.takeProbeTimeout, if_pos late]
      refine ⟨fun few => ?_, fun three found => ?_, fun four => ?_⟩
      · have := Nat.min_eq_right (show s.pdu.missing + 1 ≤ 4 by omega)
        simp only [State.missSample, if_neg (show ¬s.pdu.missing = 3 by omega), State.onPdu, this]
      · have fourth : min 4 (s.pdu.missing + 1) = 4 := by omega
        simp only [State.missSample, if_pos three, found, Bool.false_eq_true, if_false, State.onPdu, fourth]
        rfl
      · have still : min 4 (s.pdu.missing + 1) = s.pdu.missing := by omega
        simp only [State.missSample, if_neg (show ¬s.pdu.missing = 3 by omega), State.onPdu, still]

end Sys2Proof.Machine
end

section
/-! SUPPORT. Strikes: drives and their ends, impacts, and what a hand-over does. -/
namespace Sys2Proof.Machine

variable {s : State} {n : Fin 24}

/-! ### Drive ends, recovery ends, busy-untils (R63 to R65) -/

theorem not_reached {t now : ShowTime} (h : 0 < signedDiff t now) : ¬reached t now = true := by
  simpa [reached] using h

theorem driveEndReached_some {d : Drive} (drive : (s.channel n).drive = some d) :
    s.driveEndReached n = reached d.endTime s.now := by simp [State.driveEndReached, drive]

theorem recoveryEndReached_some {t : ShowTime} (h : (s.channel n).recoveryEnd = some t) :
    s.recoveryEndReached n = reached t s.now := by simp [State.recoveryEndReached, h]

theorem busyReached_some {t : ShowTime} (h : (s.channel n).busyUntil = some t) :
    s.busyReached n = reached t s.now := by simp [State.busyReached, h]

theorem takeDriveEnd_of_not (h : ¬s.driveEndReached n = true) : s.takeDriveEnd n = s := if_neg h

theorem takeDriveEnd_of_reached (h : s.driveEndReached n = true) :
    s.takeDriveEnd n = s.setChannel n ((s.channel n).endDrive (s.strikerRecord n)) := if_pos h

theorem takeRecoveryEnd_of_not (h : ¬s.recoveryEndReached n = true) : s.takeRecoveryEnd n = s := if_neg h

theorem takeRecoveryEnd_of_reached (h : s.recoveryEndReached n = true) :
    s.takeRecoveryEnd n = s.setChannel n { s.channel n with recoveryEnd := none } := if_pos h

theorem satAdd_eq_of_le (top n k : Nat) : satAdd top n k = if n + k ≤ top then n + k else top := by
  simp only [satAdd, Nat.min_def]; split <;> split <;> omega

theorem marked_iff (c : Channel) : c.marked = true ↔ c.marks.any = true ∨ c.suspended = true := by
  simp [Channel.marked]

/-- What a drive end leaves of its channel (R64, R71). -/
theorem endDrive_eq {c : Channel} {d : Drive} (drive : c.drive = some d) (r : StrikerRecord) : c.endDrive r =
    { c with
      output := false
      drive := none
      heat := if c.heat + d.width ≤ 65535 then c.heat + d.width else 65535
      recoveryEnd :=
        if c.marks.any = true ∨ c.suspended = true then none
        else some (d.start + BitVec.ofNat 32 d.width + BitVec.ofNat 32 r.recovery) } := by
  simp only [Channel.endDrive, drive, Channel.rest, heatAfter, satAdd_eq_of_le, ← marked_iff c]
  rfl

/-- Settles O40: each command tests its own time and ends what has come. -/
theorem driveRecoveryAndBusyEnd : Obligations.DriveRecoveryAndBusyEnd := by
  intro s n awake c put
  have drive : exec (.driveEnd n) s = .next (s.takeDriveEnd n) := running_awake awake _
  have recovery : exec (.recoveryEnd n) s = .next (s.takeRecoveryEnd n) := running_awake awake _
  have busy : exec (.busyUntilLapse n) s = .next (s.takeBusyLapse n) := running_awake awake _
  refine ⟨fun d h => ⟨fun past => ?_, fun early => ?_⟩, fun h => ?_, fun t h => ⟨fun past => ?_, fun early => ?_⟩,
    fun h => ?_, fun t h => ⟨fun past => ?_, fun early => ?_⟩, fun h => ?_⟩
  · rw [drive, takeDriveEnd_of_reached ((driveEndReached_some h).trans ((reached_iff _ _).2 past)), endDrive_eq h]
    rfl
  · rw [drive, takeDriveEnd_of_not (driveEndReached_some h ▸ not_reached early)]
  · rw [drive, takeDriveEnd_of_not (by simp [State.driveEndReached, show (s.channel n).drive = none from h])]
  · rw [recovery, takeRecoveryEnd_of_reached ((recoveryEndReached_some h).trans ((reached_iff _ _).2 past))]
    rfl
  · rw [recovery, takeRecoveryEnd_of_not (recoveryEndReached_some h ▸ not_reached early)]
  · rw [recovery, takeRecoveryEnd_of_not
      (by simp [State.recoveryEndReached, show (s.channel n).recoveryEnd = none from h])]
  · rw [busy, State.takeBusyLapse, if_pos ((busyReached_some h).trans ((reached_iff _ _).2 past))]
    rfl
  · rw [busy, State.takeBusyLapse, if_neg (busyReached_some h ▸ not_reached early)]
  · rw [busy, State.takeBusyLapse, if_neg (by simp [State.busyReached, show (s.channel n).busyUntil = none from h])]

/-! ### Impacts (R74 to R78) -/

theorem windowPassed_some {e : ShowTime} (h : (s.channel n).window = some e) :
    s.windowPassed n = before (e + BitVec.ofNat 32 (s.strikerRecord n).impactWindow) s.now := by
  simp [State.windowPassed, h, plusGrains]

/-- The trim after a good impact. -/
theorem adaptedTrim_eq (r : StrikerRecord) (trim e : Int) :
    let quarter := if 0 ≤ e then e / 4 else -(-e / 4)
    adaptedTrim r trim e =
      if r.adapt = true then
        if trim + quarter < -512 then -512 else if 511 < trim + quarter then 511 else trim + quarter
      else trim := by
  intro quarter
  have quartered : e.tdiv 4 = quarter := tdiv_eq_ite e 4
  simp only [adaptedTrim, quartered, clampInt]

/-- A window that closes as a miss counts in the run of misses. -/
theorem closeAsMiss_few (h : (s.channel n).missRun < 2) : s.closeAsMiss n =
    s.setChannel n
      { s.channel n with window := none, outlierRun := 0, missRun := (s.channel n).missRun + 1 } := by
  simp only [State.closeAsMiss, if_neg (show ¬3 ≤ (s.channel n).missRun + 1 by omega)]

/-- The third miss in a row is reported. -/
theorem closeAsMiss_third (h : 2 ≤ (s.channel n).missRun) : s.closeAsMiss n =
    (s.setChannel n
      { s.channel n with window := none, outlierRun := 0, missRun := 0 }).report (.noImpact n) := by
  simp only [State.closeAsMiss, if_pos (show 3 ≤ (s.channel n).missRun + 1 by omega)]

theorem outlierImpact_few (h : (s.channel n).outlierRun < 2) : s.outlierImpact n =
    s.setChannel n
      { s.channel n with window := none, missRun := 0, outlierRun := (s.channel n).outlierRun + 1 } := by
  simp only [State.outlierImpact, if_neg (show ¬3 ≤ (s.channel n).outlierRun + 1 by omega)]

theorem outlierImpact_third (h : 2 ≤ (s.channel n).outlierRun) : s.outlierImpact n =
    (s.setChannel n
      { s.channel n with window := none, missRun := 0, outlierRun := 0 }).report (.offTime n) := by
  simp only [State.outlierImpact, if_pos (show 3 ≤ (s.channel n).outlierRun + 1 by omega)]

/-- Settles O41: the error is compared with half and all of the window, and the window's end with now. -/
theorem impactsAreJudgedByTheirWindow : Obligations.ImpactsAreJudgedByTheirWindow := by
  intro s n awake r c put stray
  have pulse : exec (.impactPulse n) s = .next (s.takeImpact n) := running_awake awake _
  have windowEnd : exec (.impactWindowEnd n) s = .next (s.takeWindowEnd n) := running_awake awake _
  refine ⟨fun deaf => ?_, fun hears closed => ?_, fun closed => ?_, fun x opened => ?_⟩
  · rw [pulse, State.takeImpact, if_neg (by simp [show (s.strikerRecord n).sense = false from deaf])]
  · rw [pulse, State.takeImpact, if_pos hears, show (s.channel n).window = none from closed]
    rfl
  · rw [windowEnd, State.takeWindowEnd,
      if_neg (by simp [State.windowPassed, show (s.channel n).window = none from closed])]
  · intro e half full quarter corrected good
    have judged (hears : r.sense = true) : s.takeImpact n =
        if e.natAbs ≤ r.impactWindow / 2 then s.goodImpact n e
        else if e.natAbs ≤ r.impactWindow then s.outlierImpact n
        else s.strayImpact := by
      rw [State.takeImpact, if_pos hears, show (s.channel n).window = some x from opened]
    refine ⟨fun hears low high => ?_, fun hears far low high => ⟨fun few => ?_, fun third => ?_⟩, fun hears far => ?_,
      fun early => ?_, fun past => ⟨fun few => ?_, fun third => ?_⟩⟩
    · rw [pulse, judged hears, if_pos (by omega), State.goodImpact, adaptedTrim_eq]
      rfl
    · rw [pulse, judged hears, if_neg (by omega), if_pos (by omega), outlierImpact_few few]
      rfl
    · rw [pulse, judged hears, if_neg (by omega), if_pos (by omega), outlierImpact_third (Nat.le_of_eq third.symm)]
      rfl
    · rw [pulse, judged hears, if_neg (by omega), if_neg (by omega)]
      rfl
    · have waits : ¬s.windowPassed n = true := by
        rw [windowPassed_some opened, before_iff]; exact Int.not_lt.2 early
      rw [windowEnd, State.takeWindowEnd, if_neg waits]
    all_goals have passed : s.windowPassed n = true := (windowPassed_some opened).trans ((before_iff _ _).2 past)
    · rw [windowEnd, State.takeWindowEnd, if_pos passed, closeAsMiss_few few]
      rfl
    · rw [windowEnd, State.takeWindowEnd, if_pos passed, closeAsMiss_third (Nat.le_of_eq third.symm)]
      rfl

/-! ### Hand-over (R43 to R45) -/

/-- A due head leaves the schedule and is handed over, and the next head is looked at. -/
theorem takeDue_cons {x : Entry} {rest : List Entry} (entries : s.sch.entries = x :: rest)
    (past : signedDiff x.action s.now ≤ 0) :
    s.takeDue = (({ s with sch := { s.sch with entries := rest } } : State).handOver x).dueLoop rest.length := by
  simp only [State.takeDue, entries, List.length_cons, State.dueLoop, (reached_iff _ _).2 past, if_true]
  rfl

theorem takeDue_early {x : Entry} {rest : List Entry} (entries : s.sch.entries = x :: rest)
    (early : 0 < signedDiff x.action s.now) : s.takeDue = s := by
  simp [State.takeDue, entries, State.dueLoop, not_reached early]

theorem takeDue_nil (entries : s.sch.entries = []) : s.takeDue = s := by
  simp [State.takeDue, entries, State.dueLoop]

/-- With the next head after now, or none, a DUE has nothing more to hand over. -/
theorem dueLoop_of_early {k : Nat} (h : ∀ y tail, s.sch.entries = y :: tail → 0 < signedDiff y.action s.now) :
    s.dueLoop k = s := by
  cases k with
  | zero => rfl
  | succ k =>
    unfold State.dueLoop
    split
    · rfl
    · rename_i y tail entries; exact if_neg (not_reached (h y tail entries))

/-- What a hand-over leaves pending: the rest as it was, or nothing where it brought SAFE. -/
def State.LeftOf (es : List Entry) (s : State) : Prop := s.sch.entries = es ∨ s.sch.entries = []

theorem enterSafe_entries (s : State) : s.enterSafe.sch.entries = [] := by
  simp [State.enterSafe]

theorem requestSafe_left (s : State) : s.requestSafe.LeftOf s.sch.entries := by
  unfold State.requestSafe
  split
  · exact .inr (enterSafe_entries s)
  · exact .inl rfl

theorem react_left (p : FaultPair) (s : State) : (s.react p).LeftOf s.sch.entries := by
  unfold State.react
  split
  · exact .inl rfl
  · exact .inl (by simp)
  · exact .inl (by simp)
  · exact requestSafe_left s

theorem report_left (p : FaultPair) (s : State) : (s.report p).LeftOf s.sch.entries := by
  simpa [State.report] using react_left p (s.storeReport p)

theorem closeAsMiss_left (n : Fin 24) (s : State) : (s.closeAsMiss n).LeftOf s.sch.entries := by
  simp only [State.closeAsMiss]
  split
  · exact report_left _ _
  · exact .inl rfl

theorem takeWindowEnd_left (n : Fin 24) (s : State) : (s.takeWindowEnd n).LeftOf s.sch.entries := by
  unfold State.takeWindowEnd
  split
  · exact closeAsMiss_left n s
  · exact .inl rfl

theorem State.LeftOf.trans {es : List Entry} {t : State} (h : s.LeftOf es) (h' : t.LeftOf s.sch.entries) :
    t.LeftOf es := by
  rcases h' with h' | h'
  · rcases h with h | h
    · exact .inl (h'.trans h)
    · exact .inr (h'.trans h)
  · exact .inr h'

/-- The impact window of a new drive opens around its expected impact (R74). -/
def State.openWindow (n : Fin 24) (sense : Bool) (expected : ShowTime) (s : State) : State :=
  if sense && (s.channel n).drive.isSome then s.setChannel n { s.channel n with window := some expected } else s

/-- A drive starts in four turns: its channel drives, an earlier window closes, its own opens, and it closes at once
if its end has passed. -/
theorem startDrive_eq (n : Fin 24) (action expected : ShowTime) (w : Nat) (s : State) :
    s.startDrive n action expected w =
      ((if (s.channel n).window.isSome then (s.setChannel n (s.startedChannel n action w)).closeAsMiss n
        else s.setChannel n (s.startedChannel n action w)).openWindow n (s.strikerRecord n).sense
          expected).takeWindowEnd n := rfl

theorem openWindow_left (n : Fin 24) (sense : Bool) (e : ShowTime) (s : State) :
    (s.openWindow n sense e).LeftOf s.sch.entries := by
  unfold State.openWindow
  split <;> exact .inl rfl

theorem startDrive_left (n : Fin 24) (a e : ShowTime) (w : Nat) (s : State) :
    (s.startDrive n a e w).LeftOf s.sch.entries := by
  have started : (s.setChannel n (s.startedChannel n a w)).LeftOf s.sch.entries := .inl rfl
  rw [startDrive_eq]
  split
  · exact ((started.trans (closeAsMiss_left n _)).trans (openWindow_left ..)).trans (takeWindowEnd_left n _)
  · exact (started.trans (openWindow_left ..)).trans (takeWindowEnd_left n _)

theorem handStrike_left (n : Fin 24) (a e : ShowTime) (w : Nat) (s : State) :
    (s.handStrike n a e w).LeftOf s.sch.entries := by
  have ready : ((s.takeDriveEnd n).takeRecoveryEnd n).sch = s.sch := by simp
  unfold State.handStrike
  generalize (s.takeDriveEnd n).takeRecoveryEnd n = t at ready ⊢
  have counted (f : Sch → Sch) (keeps : (f t.sch).entries = t.sch.entries) : (t.onSch f).LeftOf s.sch.entries :=
    .inl (keeps.trans (by rw [ready]))
  simp only []
  split
  · exact counted _ rfl
  · exact (counted _ rfl).trans (startDrive_left n a e _ _)

theorem takeTravelEnd_entries (d : Fin 4) (s : State) : (s.takeTravelEnd d).sch.entries = s.sch.entries := by
  simp only [State.takeTravelEnd]
  split
  · rfl
  · split
    · split <;> rfl
    · rfl

theorem handDamper_left (d : Fin 4) (a : DamperAction) (choke : Bool) (s : State) :
    (s.handDamper d a choke).LeftOf s.sch.entries := by
  simp only [State.handDamper]
  split
  · exact .inl rfl
  · split
    · exact .inl rfl
    · exact .inl (takeTravelEnd_entries d _)

/-- A hand-over leaves the rest of the schedule pending, or nothing. -/
theorem handOver_left (x : Entry) (s : State) : (s.handOver x).LeftOf s.sch.entries := by
  simp only [State.handOver]
  split
  · split
    · exact .inl rfl
    · exact handStrike_left _ _ _ _ s
  · split
    · exact .inl rfl
    · exact handDamper_left _ _ _ s

theorem State.LeftOf.length_le {es : List Entry} (h : s.LeftOf es) : s.sch.entries.length ≤ es.length := by
  rcases h with h | h <;> simp [h]

/-- The bound of a DUE is never what ends it: hand-overs add no entries. -/
theorem dueLoop_of_le {k m : Nat} (hk : s.sch.entries.length ≤ k) (hm : s.sch.entries.length ≤ m) :
    s.dueLoop k = s.dueLoop m := by
  induction k generalizing s m with
  | zero =>
    have entries : s.sch.entries = [] := List.length_eq_zero_iff.1 (Nat.le_zero.1 hk)
    cases m <;> simp [State.dueLoop, entries]
  | succ k ih =>
    cases m with
    | zero =>
      have entries : s.sch.entries = [] := List.length_eq_zero_iff.1 (Nat.le_zero.1 hm)
      simp [State.dueLoop, entries]
    | succ m =>
      unfold State.dueLoop
      split
      · rfl
      · rename_i x rest entries
        split
        · have left := (handOver_left x (s.onSch fun q => { q with entries := rest })).length_le
          have shorter : s.sch.entries.length = rest.length + 1 := by rw [entries]; rfl
          have short : rest.length ≤ k ∧ rest.length ≤ m := by omega
          exact ih (left.trans short.1) (left.trans short.2)
        · rfl

/-- After a hand-over that leaves no due head, the DUE is done. -/
theorem takeDue_last {x : Entry} {rest : List Entry} (entries : s.sch.entries = x :: rest)
    (past : signedDiff x.action s.now ≤ 0) (last : ∀ y tail, rest = y :: tail → 0 < signedDiff y.action s.now) :
    s.takeDue = ({ s with sch := { s.sch with entries := rest } } : State).handOver x := by
  let taken : State := { s with sch := { s.sch with entries := rest } }
  have now : (taken.handOver x).now = s.now := by simp [State.now, taken]
  rw [takeDue_cons entries past]
  refine dueLoop_of_early fun y tail left => ?_
  rw [show State.now _ = _ from now]
  rcases handOver_left x taken with h | h
  · exact last y tail (h.symm.trans left)
  · exact absurd (h.symm.trans left) (by simp)

theorem handOver_late_strike {x : Entry} {w : Nat} {e : ShowTime} (work : x.work = .strike n w e)
    (late : (s.node.lateTolerance : Int) < signedDiff s.now x.action) : s.handOver x = s.countDrop .late := by
  simp [State.handOver, work, late]

theorem handOver_late_damper {x : Entry} {d : Fin 4} {a : DamperAction} {c : Bool} (work : x.work = .damper d a c)
    (late : (s.node.lateTolerance : Int) < signedDiff s.now x.action) :
    s.handOver x = s.onSch fun q => { q with damperDropped := q.damperDropped + 1 } := by
  simp [State.handOver, work, late]

theorem handOver_strike {x : Entry} {w : Nat} {e : ShowTime} (work : x.work = .strike n w e)
    (punctual : signedDiff s.now x.action ≤ s.node.lateTolerance) : s.handOver x = s.handStrike n x.action e w := by
  simp [State.handOver, work, Int.not_lt.2 punctual]

theorem handOver_damper {x : Entry} {d : Fin 4} {a : DamperAction} {c : Bool} (work : x.work = .damper d a c)
    (punctual : signedDiff s.now x.action ≤ s.node.lateTolerance) : s.handOver x = s.handDamper d a c := by
  simp [State.handOver, work, Int.not_lt.2 punctual]

theorem exec_due (awake : s.Awake) : exec .due s = .next s.takeDue := running_awake awake _

/-- Settles O37: one turn of the DUE's loop, whose bound is never reached. -/
theorem dueHandsOverInOrder : Obligations.DueHandsOverInOrder := by
  intro s awake
  refine ⟨fun entries => ?_, fun x rest entries => ⟨fun early => ?_, fun past => ?_, fun n w e work late => ?_,
    fun d a c work late => ?_⟩⟩
  · rw [exec_due awake, takeDue_nil entries]
  · rw [exec_due awake, takeDue_early entries early]
  · have awake' : (State.handOver x { s with sch := { s.sch with entries := rest } }).resetting = none := by
      simp [show s.resetting = none from awake]
    have left := (handOver_left x { s with sch := { s.sch with entries := rest } }).length_le
    rw [exec_due awake, exec_due awake', takeDue_cons entries past]
    exact congrArg _ (dueLoop_of_le left le_rfl)
  · exact handOver_late_strike work late
  · exact handOver_late_damper work late

end Sys2Proof.Machine
end

section
/-! SUPPORT. A strike handed over at due: the checks of R60, the drive's start, and what is left of the channel. -/
namespace Sys2Proof.Machine

variable {s : State} {n : Fin 24}

/-! ### The checks (R58 to R60) -/

theorem hCutEff_eq (r : StrikerRecord) : r.hCutEff =
    if r.hDerate < r.hCut then r.hCut else if r.hDerate + 1 < 65535 then r.hDerate + 1 else 65535 := by
  simp only [StrikerRecord.hCutEff, Nat.min_def]; repeat' split
  all_goals omega

/-- A striker is out of service when disabled, or held or suspended without a drive. -/
theorem outOfService_iff : (s.channelState n).outOfService = true ↔
    (s.strikerRecord n).enabled = false ∨
      (s.channel n).drive = none ∧ ((s.channel n).marks.any = true ∨ (s.channel n).suspended = true) := by
  unfold State.channelState Machine.channelState
  cases (s.strikerRecord n).enabled <;> cases (s.channel n).drive <;> cases (s.channel n).marks.any <;>
    cases (s.channel n).suspended <;> cases (s.channel n).recoveryEnd <;> simp [ChannelState.outOfService]

/-- A striker in service drives or recovers when it has a drive or a recovery running. -/
theorem occupied_iff (service : ¬(s.channelState n).outOfService = true) :
    (s.channelState n = .driving ∨ s.channelState n = .recovering) ↔
      (s.channel n).drive ≠ none ∨ (s.channel n).recoveryEnd ≠ none := by
  rw [outOfService_iff, not_or, Bool.not_eq_false] at service
  obtain ⟨enabled, unmarked⟩ := service
  simp only [State.channelState, Machine.channelState, enabled, Bool.not_true, Bool.false_eq_true, if_false]
  cases drive : (s.channel n).drive with
  | some d => simp
  | none =>
    simp only [drive, true_and, not_or, Bool.not_eq_true] at unmarked
    cases recovery : (s.channel n).recoveryEnd <;> simp [unmarked]

theorem any_before_iff (now : ShowTime) (b : Option ShowTime) :
    (b.any fun t => before now t) = true ↔ ∃ t, b = some t ∧ signedDiff now t < 0 := by
  cases b <;> simp [before]

/-- The first check that applies, over the channel's registers (R60). -/
theorem strikeCheck_eq (run : s.mdc.mode = .run) (fed : s.sup.band ≠ .cut)
    (service : ¬(s.channelState n).outOfService = true) : s.strikeCheck n =
    if (s.channelState n = .driving ∨ s.channelState n = .recovering) ∨
        ((s.channel n).busyUntil.any fun t => before s.now t) = true then some .busy
    else if (s.strikerRecord n).hCutEff ≤ (s.channel n).heat then some .hot
    else if s.acu.ceiling = 0 then some .quieted
    else none := by
  simp only [State.strikeCheck, run, fed, service, or_assoc, ne_eq, not_true_eq_false, if_false]
  rfl

theorem busy_iff (service : ¬(s.channelState n).outOfService = true) :
    ((s.channelState n = .driving ∨ s.channelState n = .recovering) ∨
        ((s.channel n).busyUntil.any fun t => before s.now t) = true) ↔
      (s.channel n).drive ≠ none ∨ (s.channel n).recoveryEnd ≠ none ∨
        ∃ t, (s.channel n).busyUntil = some t ∧ signedDiff s.now t < 0 := by
  rw [occupied_iff service, any_before_iff, or_assoc]

/-! ### The striker made ready -/

/-- A drive end and a recovery end of this instant are taken first (R60). -/
def State.readied (n : Fin 24) (s : State) : State := (s.takeDriveEnd n).takeRecoveryEnd n

theorem after_driveEnd_recoveryEnd (awake : s.Awake) :
    (s.after (.driveEnd n)).after (.recoveryEnd n) = s.readied n := by
  have drive : s.after (.driveEnd n) = s.takeDriveEnd n := State.after_eq (running_awake awake _)
  have awake' : (s.takeDriveEnd n).resetting = none := by simp [show s.resetting = none from awake]
  rw [drive]
  exact State.after_eq (running_awake awake' _)

/-- Made ready, a striker's channel alone has changed. -/
theorem readied_frame (n : Fin 24) (s : State) :
    (s.readied n).scu = s.scu ∧ (s.readied n).tbs = s.tbs ∧ (s.readied n).acu = s.acu ∧ (s.readied n).sch = s.sch ∧
    (s.readied n).sup = s.sup ∧ (s.readied n).mdc = s.mdc ∧ (s.readied n).resetting = s.resetting := by
  simp [State.readied]

theorem handStrike_dropped {reason : DropReason} (h : (s.readied n).strikeCheck n = some reason) (a e : ShowTime)
    (w : Nat) : s.handStrike n a e w = (s.readied n).countDrop reason := by
  unfold State.readied at h ⊢
  simp only [State.handStrike, h]

theorem handStrike_started (h : (s.readied n).strikeCheck n = none) (a e : ShowTime) (w : Nat) :
    s.handStrike n a e w =
      ((s.readied n).onSch fun q => { q with started := q.started + 1 }).startDrive n a e
        (finalWidth ((s.readied n).strikerRecord n) ((s.readied n).channel n).heat (s.readied n).acu.ceiling w) := by
  unfold State.readied at h ⊢
  simp only [State.handStrike, h]

/-- Settles O39: the checks in their order, each dropping with its own count. -/
theorem dueStrikeIsDroppedWithItsReason : Obligations.DueStrikeIsDroppedWithItsReason := by
  intro s n x rest w1 expected awake entries work past punctual taken ready r c hot dropped was play fed out busy
  have readyEq : ready = taken.readied n := after_driveEnd_recoveryEnd (s := taken) awake
  obtain ⟨scu, tbs, acu, sch, sup, mdc, -⟩ := readied_frame n taken
  rw [← readyEq] at scu tbs acu sch sup mdc
  have record : ready.strikerRecord n = r := by simp only [State.strikerRecord, tbs]; rfl
  have now : ready.now = s.now := congrArg Scu.now scu
  have counts {reason : DropReason} (h : ready.strikeCheck n = some reason) :
      dropped (was.add reason) := by
    have handed : taken.handOver x = ready.countDrop reason := by
      rw [readyEq] at h ⊢
      exact (handOver_strike (s := taken) work punctual).trans (handStrike_dropped h _ _ _)
    have result : ready.countDrop reason = { ready with sch := { ready.sch with dropped := was.add reason } } := by
      simp only [State.countDrop, State.onSch, sch]; rfl
    refine ⟨handed.trans result, fun last => ?_⟩
    rw [exec_due awake, takeDue_last entries past last]
    exact congrArg _ (handed.trans result)
  have play' : play ↔ ready.mdc.mode = .run := by rw [mdc]
  have fed' (h : fed) : ready.mdc.mode = .run ∧ ready.sup.band ≠ .cut := by rw [mdc, sup]; exact h
  have out' : (ready.channelState n).outOfService = true ↔ out := by rw [outOfService_iff, record]
  have busy' (h : ¬out) := busy_iff (s := ready) (n := n) (h ∘ out'.1)
  rw [now] at busy'
  have hot' : (ready.strikerRecord n).hCutEff = hot := by rw [record, hCutEff_eq]
  refine ⟨fun idle => counts (reason := .outOfService) ?_, fun run cut => counts (reason := .noSupply) ?_,
    fun f o => counts (reason := .outOfService) ?_, fun f o b => counts (reason := .busy) ?_,
    fun f o b h => counts (reason := .hot) ?_, fun f o b h ceiling => counts (reason := .quieted) ?_⟩
  · simp [State.strikeCheck, mt play'.2 idle]
  · simp [State.strikeCheck, play'.1 run, sup, show taken.sup.band = .cut from cut]
  · simp [State.strikeCheck, fed' f, out'.2 o]
  · obtain ⟨run, fed⟩ := fed' f
    rw [strikeCheck_eq run fed (mt out'.1 o), now, if_pos ((busy' o).2 b)]
  · obtain ⟨run, fed⟩ := fed' f
    rw [strikeCheck_eq run fed (mt out'.1 o), now, if_neg (mt (busy' o).1 b), hot', if_pos h]
  · obtain ⟨run, fed⟩ := fed' f
    rw [strikeCheck_eq run fed (mt out'.1 o), now, if_neg (mt (busy' o).1 b), hot', if_neg (Nat.not_le.2 h), acu,
      if_pos (show taken.acu.ceiling = 0 from ceiling)]


/-! ### The drive's start (R61 to R63, R74) -/

theorem min_eq_ite_lt (a b : Nat) : min a b = if a < b then a else b := by
  simp only [Nat.min_def]; split <;> split <;> omega

/-- The final width, step by step (R61). -/
theorem finalWidth_eq (r : StrikerRecord) (heat ceiling w1 : Nat) :
    let hot := if r.hDerate < r.hCut then r.hCut else if r.hDerate + 1 < 65535 then r.hDerate + 1 else 65535
    let least := if r.wMax < r.wMin then r.wMax else r.wMin
    let w2 := if heat ≤ r.hDerate then w1 else w1 * (hot - heat) / (hot - r.hDerate)
    let w3 := if w2 < ceiling then w2 else ceiling
    finalWidth r heat ceiling w1 = if w3 < least then least else if r.wMax < w3 then r.wMax else w3 := by
  intro hot least w2 w3
  have least' : r.wMinEff = least := by
    rw [StrikerRecord.wMinEff, min_comm]; exact min_eq_ite_lt _ _
  have w3' : min (deratedWidth r heat w1) ceiling = w3 := by
    simp only [deratedWidth, hCutEff_eq]; exact min_eq_ite_lt _ _
  simp only [finalWidth, clampNat, least', w3']

/-- The busy-until of a new drive, lapsed where it is reached (R63). -/
theorem lapsing_eq_ite (now t : ShowTime) : lapsing now (some t) = if 0 < signedDiff t now then some t else none := by
  simp [lapsing, reached, Option.filter]

theorem truncate_window {c : Channel} (h : c.window = none) (now : ShowTime) (r : StrikerRecord) :
    (c.truncate now r).window = none := by
  unfold Channel.truncate
  split
  · exact h
  · rfl

theorem setChannel_setChannel (n : Fin 24) (c d : Channel) (s : State) :
    (s.setChannel n c).setChannel n d = s.setChannel n d := by
  simp [State.setChannel, State.onStc]

theorem holdDriver_window {c : Channel} (h : c.window = none) (now : ShowTime) (r : StrikerRecord) :
    (c.holdDriver now r).window = none := by
  unfold Channel.holdDriver
  split
  · exact h
  · exact truncate_window (by exact h) now r

theorem suspend_window {c : Channel} (h : c.window = none) (now : ShowTime) (r : StrikerRecord) :
    (c.suspend now r).window = none := by
  unfold Channel.suspend
  split
  · exact h
  · exact truncate_window (by exact h) now r

theorem enterSafe_window (h : (s.channel n).window = none) : (s.enterSafe.channel n).window = none := by
  have stopped : (s.truncateAll.channel n).window = none := by
    rw [State.truncateAll, State.mapChannels_channel]; exact truncate_window h _ _
  have same : s.enterSafe.channel n = s.truncateAll.channel n := by
    simp [State.enterSafe, State.stopActuators, State.channel]
  rw [same, stopped]

/-- A report leaves a window closed that is closed. -/
theorem report_window (h : (s.channel n).window = none) (p : FaultPair) :
    ((s.report p).channel n).window = none := by
  have stored : ((s.storeReport p).channel n).window = none := by
    rw [show (s.storeReport p).channel n = s.channel n by simp [State.channel], h]
  unfold State.report
  generalize s.storeReport p = t at stored ⊢
  have held (m : Fin 24) (b : Bool) : ((t.setChannel m ((t.channel m).holdTiming b)).channel n).window = none := by
    by_cases same : n = m
    · subst same; rw [State.setChannel_channel_same]; exact stored
    · rw [State.setChannel_channel_other same]; exact stored
  unfold State.react
  split
  · exact stored
  · cases p with
    | noImpact m => exact held m false
    | offTime m => exact held m true
    | driverFault g =>
      simp only [State.holdPair, State.mapChannels_channel]
      split
      · exact holdDriver_window stored _ _
      · exact stored
    | _ => exact stored
  · cases p with
    | driverFault g =>
      simp only [State.suspendGroup, State.mapChannels_channel]
      split
      · exact suspend_window stored _ _
      · exact stored
    | _ => exact stored
  · unfold State.requestSafe
    split
    · exact enterSafe_window stored
    · exact stored

theorem openWindow_eq (n : Fin 24) (sense : Bool) (e : ShowTime) (s : State) : s.openWindow n sense e =
    if sense = true ∧ (s.channel n).drive ≠ none then
      s.setChannel n { s.channel n with window := some e } else s := by
  simp only [State.openWindow, Bool.and_eq_true, Option.isSome_iff_ne_none]

theorem openWindow_frame (n : Fin 24) (sense : Bool) (e : ShowTime) (s : State) :
    (s.openWindow n sense e).scu = s.scu ∧ (s.openWindow n sense e).tbs = s.tbs ∧
    (s.openWindow n sense e).resetting = s.resetting := by
  unfold State.openWindow; split <;> simp

theorem closeAsMiss_window (n : Fin 24) (s : State) : ((s.closeAsMiss n).channel n).window = none := by
  simp only [State.closeAsMiss]
  split
  · exact report_window (by rw [State.setChannel_channel_same]) _
  · rw [State.setChannel_channel_same]

/-- A report changes no table; entering SAFE closes the load pointer. -/
theorem report_tbs (p : FaultPair) (s : State) :
    (s.report p).tbs = s.tbs ∨ (s.report p).tbs = { s.tbs with pointer := none } := by
  have stored : (s.storeReport p).tbs = s.tbs := by simp
  unfold State.report State.react
  split
  · exact .inl stored
  · exact .inl (by simp)
  · exact .inl (by simp)
  · unfold State.requestSafe
    split
    · exact .inr (by simp [State.enterSafe])
    · exact .inl stored

theorem closeAsMiss_strikers (n : Fin 24) (s : State) : (s.closeAsMiss n).tbs.strikers = s.tbs.strikers := by
  simp only [State.closeAsMiss]
  split
  · rename_i third
    rcases report_tbs (.noImpact n) _ with h | h <;> rw [h] <;> rfl
  · rfl

/-- A new drive's window waits while its end is not before now. -/
theorem openWindow_waits {sense : Bool} {e : ShowTime} (shut : (s.channel n).window = none)
    (far : 0 ≤ signedDiff (e + BitVec.ofNat 32 ((s.openWindow n sense e).strikerRecord n).impactWindow)
      (s.openWindow n sense e).now) : ¬(s.openWindow n sense e).windowPassed n = true := by
  unfold State.openWindow at far ⊢
  split at far
  · rename_i opens
    rw [if_pos opens, windowPassed_some (e := e) (by rw [State.setChannel_channel_same]), before_iff]
    exact Int.not_lt.2 far
  · rename_i stays
    rw [if_neg stays, State.windowPassed, shut]
    exact Bool.false_ne_true

/-- Settles O38: the checks pass, and the drive starts in the turns of `startDrive_eq`. -/
theorem dueStrikeStartsItsDrive : Obligations.DueStrikeStartsItsDrive := by
  intro s n x rest w1 expected awake entries work past punctual run fed taken ready r c hot least w2 w3 w enabled idle
    unheld unsuspended rested notBusy cool loud until_ driven begun missed closed opened
  have readyEq : ready = taken.readied n := after_driveEnd_recoveryEnd (s := taken) awake
  obtain ⟨scu, tbs, acu, sch, sup, mdc, resetting⟩ := readied_frame n taken
  rw [← readyEq] at scu tbs acu sch sup mdc resetting
  have record : ready.strikerRecord n = r := by simp only [State.strikerRecord, tbs]; rfl
  have now : ready.now = s.now := congrArg Scu.now scu
  have service : ¬(ready.channelState n).outOfService = true := by
    rw [outOfService_iff, record]
    simp [enabled, show (ready.channel n).marks.any = false from unheld,
      show (ready.channel n).suspended = false from unsuspended]
  have unoccupied := mt (busy_iff service).1 (by
    rw [now, show (ready.channel n).drive = none from idle, show (ready.channel n).recoveryEnd = none from rested]
    rintro (h | h | ⟨t, h, before⟩)
    · exact h rfl
    · exact h rfl
    · exact absurd before (Int.not_lt.2 (notBusy t h)))
  have passes : ready.strikeCheck n = none := by
    rw [strikeCheck_eq (mdc ▸ run) (sup ▸ fed) service, if_neg unoccupied, record, hCutEff_eq,
      if_neg (Nat.not_le.2 cool), acu, if_neg (show ¬taken.acu.ceiling = 0 from loud)]
  have width : finalWidth (ready.strikerRecord n) (ready.channel n).heat ready.acu.ceiling w1 = w := by
    rw [record, acu]; exact finalWidth_eq r c.heat s.acu.ceiling w1
  let start : State := ready.onSch fun q => { q with started := q.started + 1 }
  have handed : taken.handOver x = start.startDrive n x.action expected w := by
    rw [← width]
    simp only [start]
    rw [readyEq] at passes ⊢
    exact (handOver_strike (s := taken) work punctual).trans (handStrike_started passes _ _ _)
  have started : start.setChannel n (start.startedChannel n x.action w) = begun driven := by
    have channel : start.startedChannel n x.action w = driven := by
      have output : (w != 0) = decide (w ≠ 0) := by by_cases h : w = 0 <;> simp [h]
      simp only [State.startedChannel, lapsing_eq_ite, output, show start.now = s.now from now,
        show start.strikerRecord n = r from record]
      rfl
    rw [channel]; rfl
  have turned : (if (start.channel n).window.isSome then (begun driven).closeAsMiss n else begun driven) = closed := by
    have channel : (begun driven).channel n = driven := State.setChannel_channel_same n driven start
    have again (y : Channel) : (begun driven).setChannel n y = begun y := setChannel_setChannel n driven y start
    simp only [closed]
    by_cases shut : c.window = none
    · rw [if_pos shut, show (start.channel n).window = none from shut]; rfl
    · rw [if_neg shut, if_pos (Option.isSome_iff_ne_none.2 (show (start.channel n).window ≠ none from shut))]
      by_cases few : c.missRun < 2
      · rw [if_pos few, closeAsMiss_few (by rw [channel]; exact few), channel, again]
      · rw [if_neg few, closeAsMiss_third (by rw [channel]; exact Nat.not_lt.1 few), channel, again]
  have opens : closed.openWindow n r.sense expected = opened := openWindow_eq ..
  have result : taken.handOver x = opened.takeWindowEnd n := by
    rw [handed, startDrive_eq, started, turned, show start.strikerRecord n = r from record, opens]
  have closedFrame : closed.scu = start.scu ∧ closed.resetting = start.resetting := by
    rw [← turned, ← started]; split <;> simp
  have closedRecords : closed.tbs.strikers = start.tbs.strikers := by
    rw [← turned, ← started]; split
    · rw [closeAsMiss_strikers]; rfl
    · rfl
  have closedWindow : (closed.channel n).window = none := by
    rw [← turned]
    split
    · exact closeAsMiss_window n _
    · rename_i shut
      rw [show (begun driven).channel n = driven from State.setChannel_channel_same n driven start]
      exact Option.not_isSome_iff_eq_none.1 shut
  obtain ⟨scu', tbs', resetting'⟩ := openWindow_frame n r.sense expected closed
  rw [opens] at scu' tbs' resetting'
  refine ⟨?_, fun far => ?_, fun last => ?_⟩
  · rw [result]
    exact running_awake (resetting'.trans (closedFrame.2.trans (resetting.trans awake))) _
  · have now' : opened.now = s.now := (congrArg Scu.now (scu'.trans closedFrame.1)).trans now
    have record' : opened.strikerRecord n = r := by
      rw [← record, State.strikerRecord, State.strikerRecord, tbs']; simp only [closedRecords]; rfl
    have waits : ¬opened.windowPassed n = true := by
      rw [← opens] at now' record' ⊢
      exact openWindow_waits closedWindow (by rw [now', record']; exact far)
    rw [result, State.takeWindowEnd, if_neg waits]
  · rw [exec_due awake, takeDue_last entries past last]

end Sys2Proof.Machine
end

section
/-! SUPPORT. Dampers, rotor and the ticks of local time. -/
namespace Sys2Proof.Machine

variable {s : State} {d : Fin 4}

/-! ### Travels and holds (R85 to R87) -/

theorem takeTravelEnd_none (h : (s.damper d).travelEnd = none) : s.takeTravelEnd d = s := by
  simp [State.takeTravelEnd, h]

theorem takeTravelEnd_early {t : ShowTime} (h : (s.damper d).travelEnd = some t) (early : 0 < signedDiff t s.now) :
    s.takeTravelEnd d = s := by
  simp [State.takeTravelEnd, h, not_reached early]

/-- A travel that ends counts as performed when a hand-over started it. -/
theorem takeTravelEnd_reached {t : ShowTime} (h : (s.damper d).travelEnd = some t) (past : signedDiff t s.now ≤ 0) :
    s.takeTravelEnd d =
      { s.setDamper d ((s.damper d).arrive t (s.damperRecord d)) with
        sch :=
          { s.sch with
            damperPerformed :=
              if (s.damper d).handedOver = true then s.sch.damperPerformed + 1 else s.sch.damperPerformed } } := by
  simp only [State.takeTravelEnd, h, (reached_iff _ _).2 past, if_true]
  split <;> rfl

theorem exec_travelEnd (awake : s.Awake) : exec (.travelEnd d) s = .next (s.takeTravelEnd d) := running_awake awake _

/-- Settles O42: each command tests its own time, and the state says where the travel arrives. -/
theorem travelAndChokeHoldEnd : Obligations.TravelAndChokeHoldEnd := by
  intro s d awake v r put counted
  have expiry : exec (.chokeHoldExpiry d) s = .next (s.takeHoldExpiry d) := running_awake awake _
  refine ⟨fun h => ?_, fun t h => ⟨fun early => ?_, fun past => ⟨fun up => ?_, fun down => ?_⟩⟩, fun h => ?_,
    fun t h => ⟨fun early => ?_, fun past => ?_⟩⟩
  · rw [exec_travelEnd awake, takeTravelEnd_none h]
  · rw [exec_travelEnd awake, takeTravelEnd_early h early]
  · rw [exec_travelEnd awake, takeTravelEnd_reached h past, Damper.arrive, show (s.damper d).state = .releasing from up]
    rfl
  · rw [exec_travelEnd awake, takeTravelEnd_reached h past, Damper.arrive,
      show (s.damper d).state = .engaging from down]
    rfl
  · rw [expiry, State.takeHoldExpiry, show (s.damper d).hold = none from h]
  · rw [expiry, State.takeHoldExpiry, show (s.damper d).hold = some t from h]
    exact congrArg _ (if_neg (not_reached early))
  · rw [expiry, State.takeHoldExpiry, show (s.damper d).hold = some t from h]
    exact congrArg _ (if_pos ((reached_iff _ _).2 past))

/-! ### Damper entries handed over (R84 to R87) -/

theorem redundantFor_release_iff (v : Damper) :
    v.redundantFor .release = true ↔ v.state = .releasing ∨ v.state = .released := by
  simp [Damper.redundantFor]

theorem redundantFor_engage_iff (v : Damper) :
    v.redundantFor .engage = true ↔ ¬(v.state = .releasing ∨ v.state = .released) := by
  cases h : v.state <;> simp [Damper.redundantFor, h]

/-- An entry that passes and is redundant is counted so, and may run a hold again. -/
theorem handDamper_redundant {a : DamperAction} {choke : Bool}
    (passes : ¬(s.mdc.mode ≠ .run ∨ s.sup.band = .cut ∨ (s.damperRecord d).enabled = false))
    (redundant : (s.damper d).redundantFor a = true) : s.handDamper d a choke =
    (s.setDamper d
      { s.damper d with
        hold :=
          if (choke && (s.damper d).state == .engaged && (s.damper d).hold.isSome) = true then
            some (plusGrains s.now (s.damperRecord d).chokeHold) else none }).onSch
      fun q => { q with damperRedundant := q.damperRedundant + 1 } := by
  rw [State.handDamper, if_neg passes]
  simp only [redundant, if_true, Damper.handle]
  split <;> rfl

/-- An entry that passes and is not redundant starts or reverses the travel, which may end at once. -/
theorem handDamper_travels {a : DamperAction} {choke : Bool}
    (passes : ¬(s.mdc.mode ≠ .run ∨ s.sup.band = .cut ∨ (s.damperRecord d).enabled = false))
    (moves : ¬(s.damper d).redundantFor a = true) : s.handDamper d a choke =
    (s.setDamper d
      (({ s.damper d with hold := none } : Damper).travel s.now (s.damperRecord d) a choke true)).takeTravelEnd d := by
  rw [State.handDamper, if_neg passes]
  simp only [moves, if_false, Damper.handle, Bool.false_eq_true]

/-- Settles O43: dropped, redundant or a travel, by R84 and the damper's position. -/
theorem dueDamperEntryMovesItsDamper : Obligations.DueDamperEntryMovesItsDamper := by
  intro s d x rest a choke awake entries work past punctual v r taken last put gives passes redundant goesUp travels
  have handed : taken.handOver x = taken.handDamper d a choke := handOver_damper work punctual
  have due (h : last) : exec .due s = .next (taken.handOver x) := by rw [exec_due awake, takeDue_last entries past h]
  have given {t : State} (h : taken.handDamper d a choke = t) : gives t :=
    ⟨handed.trans h, fun l => (due l).trans (congrArg _ (handed.trans h))⟩
  have checks (h : passes) :
      ¬(taken.mdc.mode ≠ .run ∨ taken.sup.band = .cut ∨ (taken.damperRecord d).enabled = false) := by
    obtain ⟨run, fed, enabled⟩ := h
    rintro (idle | cut | disabled)
    · exact idle run
    · exact fed cut
    · exact Bool.false_ne_true (disabled.symm.trans enabled)
  have travelled {time : Nat} {y : Damper} (ends : y.travelEnd = some (plusGrains s.now time))
      (h : taken.handDamper d a choke = (taken.setDamper d y).takeTravelEnd d) : travels time (put s.sch y) := by
    have here : (put s.sch y).damper d = y := State.setDamper_damper_same d y taken
    have run : exec (.travelEnd d) (put s.sch y) = .next (taken.handOver x) := by
      rw [exec_travelEnd (s := put s.sch y) awake, handed, h]; rfl
    refine ⟨run, fun l => (due l).trans run.symm, fun some_ short => given (h.trans ?_)⟩
    have later : 0 < signedDiff (plusGrains s.now time) s.now := by rw [signedDiff_plusGrains _ _ (by omega)]; omega
    exact takeTravelEnd_early (by rw [State.setDamper_damper_same]; exact ends) later
  refine ⟨fun h => given ?_, fun h release up => given ?_, fun h release down => travelled rfl ?_,
    fun h engage up => travelled rfl ?_, fun h engage down => given ?_⟩
  · have dropped : taken.mdc.mode ≠ .run ∨ taken.sup.band = .cut ∨ (taken.damperRecord d).enabled = false := by
      by_contra all
      simp only [not_or, not_not, Bool.not_eq_false] at all
      exact h all
    have same : s.dmc.dampers.set d v = s.dmc.dampers := Vector.set_getElem_self ..
    rw [State.handDamper, if_pos dropped]
    simp only [put, same]
    rfl
  · subst release
    rw [handDamper_redundant (checks h) ((redundantFor_release_iff _).2 up)]
    have high : ((taken.damper d).state == .engaged) = false := by
      rcases up with up | up <;> simp [show (taken.damper d).state = _ from up]
    rw [high, Bool.and_false, Bool.false_and, if_neg Bool.false_ne_true]
    rfl
  · subst release
    rw [handDamper_travels (checks h) (mt (redundantFor_release_iff _).1 down)]
    rfl
  · subst engage
    rw [handDamper_travels (checks h) fun e => (redundantFor_engage_iff _).1 e up]
    rfl
  · subst engage
    rw [handDamper_redundant (checks h) ((redundantFor_engage_iff _).2 down)]
    simp only [Bool.and_eq_true, beq_iff_eq, Option.isSome_iff_ne_none, and_assoc]
    rfl

/-! ### The rotor (R92 to R96) -/

theorem risingReached_some {c : StepCycle} (h : s.rot.cycle = some c) :
    s.risingReached = (!s.rot.output && reached c.nextChange s.now) := by simp [State.risingReached, h]

theorem fallingReached_some {c : StepCycle} (h : s.rot.cycle = some c) :
    s.fallingReached = (s.rot.output && reached c.nextChange s.now) := by simp [State.fallingReached, h]

theorem alignReached_some {t : ShowTime} (h : s.rot.align = some t) : s.alignReached = reached t s.now := by
  simp [State.alignReached, h]

theorem takeRisingEdge_of_not (h : s.risingReached = false) : s.takeRisingEdge = s := by
  unfold State.takeRisingEdge
  split
  · rfl
  · exact if_neg (by rw [h]; exact Bool.false_ne_true)

theorem takeFallingEdge_of_not (h : s.fallingReached = false) : s.takeFallingEdge = s := by
  unfold State.takeFallingEdge
  split
  · rfl
  · exact if_neg (by rw [h]; exact Bool.false_ne_true)

theorem satAdd_one (top n : Nat) : satAdd top n 1 = if n + 1 ≤ top then n + 1 else top := satAdd_eq_of_le ..

/-- Settles O44: each edge tests the cycle's next change and the output's level. -/
theorem rotorEdgesAlignAndIndex : Obligations.RotorEdgesAlignAndIndex := by
  intro s awake r after p
  have rising : exec .stepRisingEdge s = .next s.takeRisingEdge := running_awake awake _
  have falling : exec .stepFallingEdge s = .next s.takeFallingEdge := running_awake awake _
  have align : exec .alignTakesEffect s = .next s.takeAlign := running_awake awake _
  have index : exec .indexPulse s = .next s.takeIndexPulse := running_awake awake _
  have noRise (h : s.risingReached = false) : after .stepRisingEdge r := by
    show exec .stepRisingEdge s = _; rw [rising, takeRisingEdge_of_not h]
  have noFall (h : s.fallingReached = false) : after .stepFallingEdge r := by
    show exec .stepFallingEdge s = _; rw [falling, takeFallingEdge_of_not h]
  refine ⟨fun none => ⟨noRise ?_, noFall ?_⟩,
    fun c cycle => ⟨fun early => ⟨noRise ?_, noFall ?_⟩, fun past low => ⟨?_, noFall ?_⟩,
      fun past high => ⟨?_, noRise ?_⟩⟩, fun none => ?_, fun t pending => ⟨fun early => ?_, fun past rest => ?_,
      fun past turns => ?_⟩, fun still => ?_, fun enabled off => ?_⟩
  · simp [State.risingReached, show s.rot.cycle = Option.none from none]
  · simp [State.fallingReached, show s.rot.cycle = Option.none from none]
  · rw [risingReached_some cycle, Bool.eq_false_iff.2 (not_reached early), Bool.and_false]
  · rw [fallingReached_some cycle, Bool.eq_false_iff.2 (not_reached early), Bool.and_false]
  · have rises : s.risingReached = true := by
      rw [risingReached_some cycle, show s.rot.output = false from low, (reached_iff _ _).2 past]; rfl
    show exec .stepRisingEdge s = _
    rw [rising, State.takeRisingEdge, show s.rot.cycle = some c from cycle]
    exact congrArg _ (if_pos rises)
  · rw [fallingReached_some cycle, show s.rot.output = false from low, Bool.false_and]
  · have falls : s.fallingReached = true := by
      rw [fallingReached_some cycle, show s.rot.output = true from high, (reached_iff _ _).2 past]; rfl
    show exec .stepFallingEdge s = _
    rw [falling, State.takeFallingEdge, show s.rot.cycle = some c from cycle]
    exact congrArg _ (if_pos falls)
  · rw [risingReached_some cycle, show s.rot.output = true from high, Bool.not_true, Bool.false_and]
  · show exec .alignTakesEffect s = _
    rw [align, State.takeAlign, if_neg (by simp [State.alignReached, show s.rot.align = Option.none from none])]
  · show exec .alignTakesEffect s = _
    rw [align, State.takeAlign, if_neg (alignReached_some pending ▸ not_reached early)]
  · show exec .alignTakesEffect s = _
    rw [align, State.takeAlign, if_pos ((alignReached_some pending).trans ((reached_iff _ _).2 past)), State.onRot]
    exact congrArg _ (congrArg (fun x => { s with rot := x }) (if_pos rest))
  · show exec .alignTakesEffect s = _
    rw [align, State.takeAlign, if_pos ((alignReached_some pending).trans ((reached_iff _ _).2 past)), State.onRot]
    exact congrArg _ (congrArg (fun x => { s with rot := x }) (if_neg turns))
  · have ignored : ¬(s.node.indexEnabled && s.rot.position != 0) = true := by
      rcases still with h | h
      · simp [h]
      · simp [show s.rot.position = 0 from h]
    show exec .indexPulse s = _
    rw [index, State.takeIndexPulse, if_neg ignored]
  · have taken : (s.node.indexEnabled && s.rot.position != 0) = true := by
      simp [enabled, show s.rot.position ≠ 0 from off]
    show exec .indexPulse s = _
    rw [index, State.takeIndexPulse, if_pos taken]
    simp only [State.onRot, satAdd_one]
    rfl

/-! ### The ticks of local time (R72, R93, R144) -/

/-- The rate a ramp tick moves to. -/
theorem rampedRate_eq (current target step : Nat) : rampedRate current target step =
    if current < target then if current + step < target then current + step else target
    else if target < current then if target < current - step then current - step else target
    else current := by
  have down : max target (current - step) = if target < current - step then current - step else target := by
    simp only [Nat.max_def]; split <;> split <;> omega
  rw [rampedRate, min_comm, min_eq_ite_lt, down]

/-- A ramp tick's effect on rate and cycle, by the rates before and after (R93). -/
theorem ramp_eq (now : ShowTime) (n : NodeRecord) (r : Rot) :
    let rate := rampedRate r.current r.target n.rampStep
    r.ramp now n =
      if r.current = 0 ∧ rate ≠ 0 then ({ r with current := rate } : Rot).risingEdge now n.stepsPerRev
      else if r.current ≠ 0 ∧ rate = 0 then { r with current := rate, output := false, cycle := none }
      else { r with current := rate } := rfl

theorem takeRampTick_reached (h : s.rot.rampNext ≤ s.localTime) : s.takeRampTick =
    { s with rot := { s.rot.ramp s.now s.node with rampNext := s.rot.rampNext + 1024 * 16 } } := by
  rw [State.takeRampTick, if_pos (by simpa [State.rampReached] using h)]
  rfl

theorem takeRampTick_early (h : s.localTime < s.rot.rampNext) : s.takeRampTick = s :=
  if_neg (by simpa [State.rampReached] using h)

/-- The blink toggles the output exactly when it is not at its level (R144). -/
theorem takeBlink_eq (s : State) : s.takeBlink =
    { s with svu := { s.svu with lampOn := s.svu.lamp.level s.localTime } } := by
  unfold State.takeBlink State.blinkReached
  by_cases h : s.svu.lampOn = s.svu.lamp.level s.localTime
  · simp only [h, bne_self_eq_false, Bool.false_eq_true, if_false]
    rw [← h]
  · have toggled : (!s.svu.lampOn) = s.svu.lamp.level s.localTime := by
      cases lamp : s.svu.lampOn <;> simp_all
    rw [if_pos (by simpa using h), State.onSvu, toggled]

/-- What the lamp shows, line by line (R144). -/
theorem lampPattern_eq (s : State) : s.lampPattern =
    if s.mdc.mode = .safe ∨ s.mdc.mode = .lockedOut then .steady
    else if ∃ x ∈ s.svu.faults, s.effectiveClass x.pair.kind = .hold ∨ s.effectiveClass x.pair.kind = .recover then
      .fastBlink
    else if s.svu.faults = [] then .off
    else .slowBlink := by
  simp only [State.lampPattern, List.any_eq_true, Bool.or_eq_true, beq_iff_eq, List.isEmpty_iff]

/-- The lamp's output follows a change of its pattern only. -/
theorem refreshLamp_eq (s : State) : s.refreshLamp =
    { s with
      svu :=
        { s.svu with
          lamp := s.lampPattern
          lampOn := if s.svu.lamp = s.lampPattern then s.svu.lampOn else s.lampPattern.level s.localTime } } := by
  unfold State.refreshLamp
  by_cases h : s.lampPattern = s.svu.lamp
  · rw [if_pos h, if_pos h.symm, h]
  · rw [if_neg h, if_neg (Ne.symm h)]
    rfl

theorem takeCoolingTick_reached (h : s.stc.coolingNext ≤ s.localTime) : s.takeCoolingTick =
    (s.mapChannels fun n c => { c with heat := c.heat - (s.strikerRecord n).cooling }).onStc
      fun t => { t with coolingNext := t.coolingNext + Config.tickPeriod } :=
  if_pos (by simpa [State.coolingReached] using h)

/-- Settles O45: each tick tests its instant; the lamp's level is a function of local time. -/
theorem ticksOfLocalTimeAreTaken : Obligations.TicksOfLocalTimeAreTaken := by
  intro s awake
  have cooling : exec .coolingTick s = .next s.takeCoolingTick := running_awake awake _
  have ramp : exec .rampTick s = .next s.takeRampTick := running_awake awake _
  refine ⟨fun early => ?_, fun past => ⟨_, cooling, fun n => ?_, ?_⟩, ?_, ?_, ?_⟩
  · rw [cooling, State.takeCoolingTick, if_neg (by simpa [State.coolingReached] using early)]
  · rw [takeCoolingTick_reached past]
    exact State.mapChannels_channel (fun n c => { c with heat := c.heat - (s.strikerRecord n).cooling }) s n
  · rw [takeCoolingTick_reached past]; rfl
  · intro due
    refine (running_awake awake State.takeBlink).trans ?_
    rw [takeBlink_eq]
    rfl
  · intro class_ shows level
    rw [refreshLamp_eq, show s.lampPattern = shows from lampPattern_eq s]
    rfl
  · intro r n after tick up down rate p
    have moved : rampedRate r.current r.target n.rampStep = rate := rampedRate_eq ..
    have ramped := ramp_eq s.now n r
    simp only [moved] at ramped
    refine ⟨fun early => ?_, fun past => ?_⟩
    · show exec .rampTick s = _
      rw [ramp, takeRampTick_early early]
    · have ticks {x : Rot} (h : r.ramp s.now n = x) : after { x with rampNext := tick } := by
        show exec .rampTick s = _
        rw [ramp, takeRampTick_reached past, ← h]
      refine ⟨fun rest still => ticks (x := { r with current := rate }) ?_,
        fun rest starts => ticks (x := ({ r with current := rate } : Rot).risingEdge s.now n.stepsPerRev) ?_,
        fun runs stops => ticks (x := { r with current := rate, output := false, cycle := none }) ?_,
        fun runs goes => ticks (x := { r with current := rate }) ?_⟩
      · rw [ramped, if_neg (by simp [still]), if_neg (by simp [rest])]
      · rw [ramped, if_pos ⟨rest, starts⟩]
      · rw [ramped, if_neg (by simp [runs]), if_pos ⟨runs, stops⟩]
      · rw [ramped, if_neg (by simp [runs]), if_neg (by simp [goes])]

end Sys2Proof.Machine
end

section
/-! SUPPORT. Reports and their reactions, the clock's own events, the driver fault inputs. -/
namespace Sys2Proof.Machine

variable {s : State}

/-! ### Driver fault inputs (R146) -/

theorem driverFilterReached_iff (g : Fin 3) (s : State) : s.driverFilterReached g = true ↔
    s.svu.driverInput[g] ≠ s.svu.driverFault[g] ∧ s.svu.driverChanged[g] + 5 * 16 ≤ s.localTime := by
  rw [State.driverFilterReached, Bool.and_eq_true, bne_iff_ne, decide_eq_true_iff]
  rfl

/-- Settles O48: a changed level restarts the filter, and the filter's end compares level and condition. -/
theorem driverFaultInputsAreFiltered : Obligations.DriverFaultInputsAreFiltered := by
  intro s g
  refine ⟨fun level => ⟨fun same => ?_, fun changed => ?_⟩, fun awake => ?_⟩
  · show Host.Outcome.next (s.setDriverInput g level) = _
    rw [State.setDriverInput, if_pos same]
  · show Host.Outcome.next (s.setDriverInput g level) = _
    rw [State.setDriverInput, if_neg changed]
    rfl
  · intro falls now
    have expiry : exec (.driverFaultFilterExpiry g) s = .next (s.takeDriverFilter g) := running_awake awake _
    refine ⟨fun h => ?_, fun h high => ?_, fun h low => ?_⟩
    · rw [expiry, State.takeDriverFilter, if_neg (mt (driverFilterReached_iff g s).1 h)]
    · rw [expiry, State.takeDriverFilter, if_pos ((driverFilterReached_iff g s).2 h)]
      simp only [high, if_true, State.onSvu]
      rfl
    · rw [expiry, State.takeDriverFilter, if_pos ((driverFilterReached_iff g s).2 h)]
      simp only [low, Bool.false_eq_true, if_false, State.onSvu]
      rfl

/-! ### The clock's and the timer's events (R10, R106, R107, R154) -/

theorem any_le_iff (o : Option Nat) (f : Nat → Nat) (top : Nat) :
    (o.any fun t => decide (f t ≤ top)) = true ↔ ∃ t, o = some t ∧ f t ≤ top := by
  cases o <;> simp

theorem supervisionReached_iff (s : State) : s.supervisionReached = true ↔
    s.scu.sync = .locked ∧ ∃ t, s.scu.lastMark = some t ∧ t + 16 * (2 * s.node.markPeriod) ≤ s.localTime := by
  rw [State.supervisionReached, Bool.and_eq_true, beq_iff_eq, any_le_iff]
  rfl

theorem holdoverReached_iff (s : State) : s.holdoverReached = true ↔
    s.scu.sync = .holdover ∧ ∃ t, s.scu.holdoverStart = some t ∧ t + 16 * s.node.holdoverLimit ≤ s.localTime := by
  rw [State.holdoverReached, Bool.and_eq_true, beq_iff_eq, any_le_iff]
  rfl

theorem configReached_iff (s : State) : s.configReached = true ↔
    s.mdc.mode = .config ∧ ∃ t, s.mdc.timer = some t ∧ t ≤ s.localTime := by
  rw [State.configReached, Bool.and_eq_true, beq_iff_eq, any_le_iff _ fun t => t]

theorem swapReached_iff (s : State) : s.swapReached = true ↔
    ∃ t, s.tbs.pendingSwap = some t ∧ signedDiff t s.now ≤ 0 := by
  unfold State.swapReached
  cases s.tbs.pendingSwap <;> simp [reached]

theorem TableId.banked_iff (t : TableId) : t.banked = true ↔ t = .note ∨ t = .curve ∨ t = .articulation := by
  cases t <;> simp [TableId.banked]

/-- A swap takes effect on the selector, the pending swap and a pointer into a banked table (R11). -/
theorem Tbs.swap_eq (t : Tbs) : t.swap =
    { t with
      playBank := (match t.playBank with | .a => .b | .b => .a)
      pendingSwap := none
      pointer :=
        (match t.pointer with
         | none => none
         | some o =>
           if o.table = .note ∨ o.table = .curve ∨ o.table = .articulation then none else some o) } := by
  have pointer : (t.pointer.filter fun p => !p.table.banked) =
      match t.pointer with
      | none => none
      | some o => if o.table = .note ∨ o.table = .curve ∨ o.table = .articulation then none else some o := by
    cases t.pointer with
    | none => rfl
    | some o =>
      simp only [Option.filter, ← TableId.banked_iff]
      by_cases banked : o.table.banked = true <;> simp [banked]
  simp only [Tbs.swap, pointer]
  rfl

theorem enterSync_holdover (s : State) :
    s.enterSync .holdover = { s with scu := { s.scu with sync := .holdover } } := by
  simp only [State.enterSync, SyncState.notLocked, Bool.false_eq_true, false_and, if_false]
  rfl

/-- Entering UNLOCKED takes a pending swap into effect; with none pending it only names the state. -/
theorem enterSync_unlocked_of_none (h : s.tbs.pendingSwap = none) :
    s.enterSync .unlocked = { s with scu := { s.scu with sync := .unlocked } } :=
  if_neg (c := SyncState.unlocked.notLocked = true ∧ s.tbs.pendingSwap.isSome = true) fun swap => by
    simp [h] at swap

theorem enterSync_unlocked_of_some (h : s.tbs.pendingSwap ≠ none) :
    s.enterSync .unlocked = { s with scu := { s.scu with sync := .unlocked }, tbs := s.tbs.swap } :=
  if_pos (c := SyncState.unlocked.notLocked = true ∧ s.tbs.pendingSwap.isSome = true)
    ⟨rfl, Option.isSome_iff_ne_none.2 h⟩

theorem report_pendingSwap (p : FaultPair) (s : State) : (s.report p).tbs.pendingSwap = s.tbs.pendingSwap := by
  rcases report_tbs p s with h | h <;> rw [h]

/-- LOCKED_OUT is entered with nothing moving, no swap pending, the pointer closed and the lamp steady (R154). -/
theorem enterLockedOut_eq (s : State) : s.enterLockedOut =
    { s with
      mdc := { s.mdc with mode := .lockedOut }
      dmc := { dampers := Vector.replicate 4 {} }
      rot := { s.rot with target := 0, current := 0, output := false, cycle := none, align := none }
      tbs := { s.tbs with pendingSwap := none, pointer := none }
      svu :=
        { s.svu with
          lamp := .steady
          lampOn := if s.svu.lamp = .steady then s.svu.lampOn else true } } := by
  rw [State.enterLockedOut, State.setMode, refreshLamp_eq]
  rfl

/-- Settles O47: each event tests its state and its time. -/
theorem clockAndTimerEventsAreTaken : Obligations.ClockAndTimerEventsAreTaken := by
  intro s awake swapped
  have swapEq (t : Tbs) : t.swap = swapped t := Tbs.swap_eq t
  refine ⟨?_, ?_, ?_, ?_⟩
  · intro falls
    have run : exec .supervisionDeadline s = .next s.takeSupervision := running_awake awake _
    refine ⟨fun h => ?_, fun h => ?_⟩
    · rw [run, State.takeSupervision, if_pos ((supervisionReached_iff s).2 h), enterSync_holdover]
      rfl
    · rw [run, State.takeSupervision, if_neg (mt (supervisionReached_iff s).1 h)]
  · intro falls lost
    have run : exec .holdoverExpiry s = .next s.takeHoldoverExpiry := running_awake awake _
    have taken (h : falls) : s.takeHoldoverExpiry = lost.enterSync .unlocked :=
      if_pos ((holdoverReached_iff s).2 h)
    have swap : lost.tbs.pendingSwap = s.tbs.pendingSwap := report_pendingSwap _ _
    have sync : lost.scu = { lost.scu with sync := .unlocked } := by
      have scu : lost.scu = { s.scu with sync := .unlocked, confidence := 0, slew := 0, holdoverStart := none } := by
        simp [lost, State.flushSchedule]
      rw [scu]
    refine ⟨fun h none => ?_, fun h some => ?_, fun h => ?_⟩
    · rw [run, taken h, enterSync_unlocked_of_none (swap.trans none), ← sync]
    · rw [run, taken h, enterSync_unlocked_of_some (swap ▸ some), ← sync, swapEq]
    · rw [run, State.takeHoldoverExpiry, if_neg (mt (holdoverReached_iff s).1 h)]
  · intro falls
    have run : exec .swapTimeReached s = .next s.takeSwapTime := running_awake awake _
    refine ⟨fun h => ?_, fun h => ?_⟩
    · rw [run, State.takeSwapTime, if_pos ((swapReached_iff s).2 h), ← swapEq]; rfl
    · rw [run, State.takeSwapTime, if_neg (mt (swapReached_iff s).1 h)]
  · intro falls reported
    have run : exec .configTimeout s = .next s.takeConfigTimeout := running_awake awake _
    have same : reported.rot = s.rot ∧ reported.tbs = s.tbs := by
      rw [show reported = _ from report_of_warn (p := .configTimeout) rfl _]
      simp
    refine ⟨fun h => ?_, fun h => ?_⟩
    · have taken : s.takeConfigTimeout = reported.enterLockedOut := if_pos ((configReached_iff s).2 h)
      rw [run, taken, enterLockedOut_eq, same.1, same.2]
    · rw [run, State.takeConfigTimeout, if_neg (mt (configReached_iff s).1 h)]

/-! ### Reports (R136, R137, R143) -/

theorem readStriker_byteOf : ∀ n : Fin 24, readStriker (byteOf n.val) = some n := by decide

/-- A pair is read back from its codes. -/
theorem readPair_codes (p : FaultPair) : readPair (BitVec.ofNat 8 p.kind.item.val) p.subject = some p := by
  cases p with
  | noImpact n => exact congrArg (Option.map FaultPair.noImpact) (readStriker_byteOf n)
  | offTime n => exact congrArg (Option.map FaultPair.offTime) (readStriker_byteOf n)
  | driverFault g => revert g; decide
  | linkErrors p => cases p <;> rfl
  | loadError t => cases t <;> rfl
  | _ => rfl

theorem notLocked_eq (x : SyncState) : x.notLocked = decide (x = .unlocked ∨ x = .acquiring) := by
  cases x <;> rfl

theorem has_iff (v : Svu) (p : FaultPair) : v.has p = true ↔ ∃ r ∈ v.faults, r.pair = p := by
  simp [Svu.has]

/-- The flags byte of a record just appended (log entry 37). -/
theorem newRecord_flags (condition notLocked : Bool) :
    (flagBit 0 condition ||| flagBit 1 condition ||| flagBit 2 notLocked : Byte) =
      if condition = true then (if notLocked = true then 7 else 3) else if notLocked = true then 4 else 0 := by
  cases condition <;> cases notLocked <;> rfl

/-- The classes a kind takes (R135, R136). -/
theorem effective_cases (k : FaultKind) (c : ReactionClass) :
    (k = .noImpact ∨ k = .offTime → k.effective c = if c = .recover then .hold else c) ∧
    (k = .driverFault → k.effective c = c) ∧
    (k = .clockLost ∨ k = .linkErrors → k.effective c = if c = .halt then .halt else .warn) ∧
    (k ≠ .noImpact → k ≠ .offTime → k ≠ .driverFault → k ≠ .clockLost → k ≠ .linkErrors →
      k.effective c = .warn) := by
  refine ⟨?_, ?_, ?_, fun a b d e f => ?_⟩
  · rintro (rfl | rfl) <;> cases c <;> rfl
  · rintro rfl; cases c <;> rfl
  · rintro (rfl | rfl) <;> cases c <;> rfl
  · have allowed : k.allowed = [.warn] := by
      cases k with
      | noImpact => exact absurd rfl a
      | offTime => exact absurd rfl b
      | driverFault => exact absurd rfl d
      | clockLost => exact absurd rfl e
      | linkErrors => exact absurd rfl f
      | _ => rfl
    simp only [FaultKind.effective, allowed, List.mem_singleton]
    split <;> simp_all

/-- A NOTICE is queued, counted as discarded, or not asked for (R131, R143). -/
theorem sendNotice_eq (r : FaultRecord) (s : State) : s.sendNotice r =
    if s.node.notices = true ∧ s.tbs.supervision[r.pair.kind.item].notice = true then
      if s.liu.answer.length < 8 then
        ({ s with
            liu := { s.liu with answer := s.liu.answer ++ [noticeFrame s.liu.position r] } } : State).kickReturn
      else
        { s with
          liu :=
            { s.liu with
              counters := { s.liu.counters with noticeDiscards := s.liu.counters.noticeDiscards + 1 } } }
    else s := by
  simp only [State.sendNotice, Bool.and_eq_true]
  rfl

/-- Settles O50: the list decides between update, append and overflow, and the reaction follows. -/
theorem reportsAreStoredAndReactedTo : Obligations.ReportsAreStoredAndReactedTo := by
  intro s p listed condition notLocked r code flags notice stored noticed
  have record : s.newRecord p = r := by
    simp only [State.newRecord, notLocked_eq]
    rfl
  have bytes : noticeFrame s.liu.position r = notice := by
    simp only [noticeFrame, FaultRecord.bytes]
    rw [newRecord_flags, show nat2 r.occurrences = [0x00, 0x01] from (by decide : nat2 1 = [0x00, 0x01])]
    rfl
  refine ⟨readPair_codes p, record, fun k => rfl, fun h => ?_, fun h room => ?_, fun h full => ?_, effective_cases⟩
  · have again (x : FaultRecord) : (if x.pair = p then x.again s.now else x) =
        if x.pair = p then
          { x with
            lastSeen := s.now, active := condition
            occurrences := if x.occurrences + 1 ≤ 65535 then x.occurrences + 1 else 65535 }
        else x := by
      split
      · rename_i same; rw [FaultRecord.again, satAdd_one, same]
      · rfl
    rw [State.report, State.storeReport, if_pos ((has_iff _ _).2 h), State.onSvu]
    simp only [again]
  · have first : some (s.svu.first.getD r) = match s.svu.first with | some x => some x | none => some r := by
      cases s.svu.first <;> rfl
    have appended : (s.onSvu fun v =>
        { v with faults := v.faults ++ [r], first := some (v.first.getD r) }).refreshLamp = stored := by
      simp only [State.onSvu, first]
      rfl
    have parts : stored.liu = s.liu ∧ stored.tbs = s.tbs := by simp [stored]
    have sent : stored.sendNotice r = noticed := by
      simp only [noticed, sendNotice_eq, State.node, parts, bytes]
      rfl
    rw [State.report, State.storeReport, if_neg (mt (has_iff _ _).1 h), if_pos (c := _ < Config.faultCapacity) room,
      record, State.appendRecord, appended, sent]
  · rw [State.report, State.storeReport, if_neg (mt (has_iff _ _).1 h),
      if_neg (c := _ < Config.faultCapacity) (Nat.not_lt.2 full), State.onSvu, satAdd_one]


/-! ### Reactions (R67 to R70, R138 to R140) -/

theorem mapChannels_congr {f g : Fin 24 → Channel → Channel} (h : ∀ n c, f n c = g n c) (s : State) :
    s.mapChannels f = s.mapChannels g := by
  rw [show f = g from funext fun n => funext (h n)]

/-- One channel replaced is a map of the channels. -/
theorem setChannel_eq_mapChannels (m : Fin 24) (f : Channel → Channel) (s : State) :
    s.setChannel m (f (s.channel m)) = s.mapChannels fun n c => if n = m then f c else c := by
  have channels : s.stc.channels.set m (f (s.channel m)) =
      tabulate fun n => if n = m then f s.stc.channels[n] else s.stc.channels[n] := by
    refine Vector.ext fun i hi => ?_
    have same := tabulate_get (fun n : Fin 24 => if n = m then f s.stc.channels[n] else s.stc.channels[n]) ⟨i, hi⟩
    rw [Vector.getElem_set, show (tabulate _)[i] = _ from same]
    by_cases h : m.val = i
    · subst h; simp [State.channel]
    · rw [if_neg h, if_neg fun e => h (congrArg Fin.val e).symm]; rfl
  simp only [State.setChannel, State.mapChannels, State.onStc, channels]

theorem groupOf_eq_iff (n : Fin 24) (g : Fin 3) : groupOf n = g ↔ n.val / 8 = g.val := by
  simp [groupOf, Fin.ext_iff]

/-- What a mark that stops a drive leaves of its channel (R67, R68). -/
def Channel.stopped (now : ShowTime) (c : Channel) : Channel :=
  match c.drive with
  | none => { c with recoveryEnd := none }
  | some d =>
    { c with
      output := false, drive := none, recoveryEnd := none, window := none
      heat := min 65535 (c.heat + (d.width - (signedDiff (d.start + BitVec.ofNat 32 d.width) now).toNat)) }

/-- A marked channel that is truncated does not recover. -/
theorem truncate_marked {c : Channel} (h : c.marked = true) (now : ShowTime) (r : StrikerRecord) :
    ({ c with recoveryEnd := none } : Channel).truncate now r = c.stopped now := by
  simp only [Channel.marked] at h
  unfold Channel.truncate Channel.stopped
  cases c.drive with
  | none => rfl
  | some d =>
    simp only [Channel.rest, Channel.marked, h, if_true]
    rfl

theorem holdDriver_eq (c : Channel) (now : ShowTime) (r : StrikerRecord) : c.holdDriver now r =
    if c.marks.driverFault = false then
      ({ c with marks := { c.marks with driverFault := true } } : Channel).stopped now
    else c := by
  cases held : c.marks.driverFault with
  | true => simp [Channel.holdDriver, held]
  | false =>
    rw [Channel.holdDriver, held, if_neg Bool.false_ne_true, if_pos rfl]
    exact truncate_marked (c := { c with marks := { c.marks with driverFault := true } })
      (by simp [Channel.marked, HoldMarks.any]) now r

theorem suspend_eq (c : Channel) (now : ShowTime) (r : StrikerRecord) : c.suspend now r =
    if c.suspended = false then ({ c with suspended := true } : Channel).stopped now else c := by
  cases held : c.suspended with
  | true => simp [Channel.suspend, held]
  | false =>
    rw [Channel.suspend, held, if_neg Bool.false_ne_true, if_pos rfl]
    exact truncate_marked (c := { c with suspended := true }) (by simp [Channel.marked]) now r

/-- HOLD of a DRIVER_FAULT (R68). -/
theorem holdPair_driverFault (g : Fin 3) (s : State) : s.holdPair (.driverFault g) =
    s.mapChannels fun n c =>
      if n.val / 8 = g.val ∧ c.marks.driverFault = false then
        ({ c with marks := { c.marks with driverFault := true } } : Channel).stopped s.now
      else c := by
  rw [State.holdPair]
  refine mapChannels_congr (fun n c => ?_) s
  simp only [groupOf_eq_iff, holdDriver_eq, ite_and]

/-- RECOVER of a DRIVER_FAULT (R68). -/
theorem suspendGroup_driverFault (g : Fin 3) (s : State) : s.suspendGroup (.driverFault g) =
    s.mapChannels fun n c =>
      if n.val / 8 = g.val ∧ c.suspended = false then
        ({ c with suspended := true } : Channel).stopped s.now
      else c := by
  rw [State.suspendGroup]
  refine mapChannels_congr (fun n c => ?_) s
  simp only [groupOf_eq_iff, suspend_eq, ite_and]

/-- The end of a DRIVER_FAULT clears its group's suspend marks (R138). -/
theorem unsuspendGroup_eq (g : Fin 3) (s : State) : s.unsuspendGroup g =
    s.mapChannels fun n c => if n.val / 8 = g.val then { c with suspended := false } else c := by
  rw [State.unsuspendGroup]
  refine mapChannels_congr (fun n c => ?_) s
  simp only [groupOf_eq_iff]

/-- A release takes the pair's own hold mark, and no other (R70, R140). -/
theorem releasePair_eq (p : FaultPair) (s : State) : s.releasePair p =
    s.mapChannels fun n c =>
      { c with
        marks :=
          { noImpact := c.marks.noImpact && decide (p ≠ .noImpact n)
            offTime := c.marks.offTime && decide (p ≠ .offTime n)
            driverFault := c.marks.driverFault && decide (p ≠ .driverFault (groupOf n)) } } := by
  refine mapChannels_congr (fun n c => ?_) s
  cases p with
  | noImpact m => by_cases h : m = n <;> simp [h, eq_comm (a := n)]
  | offTime m => by_cases h : m = n <;> simp [h, eq_comm (a := n)]
  | driverFault g => by_cases h : g = groupOf n <;> simp [h, eq_comm (a := groupOf n)]
  | _ => simp

/-- Settles O51: the class selects the reaction, which is a map of the channels, SAFE, or nothing. -/
theorem reactionsActByTheEffectiveClass : Obligations.ReactionsActByTheEffectiveClass := by
  intro s p cls channels stopped ended
  have reacts : s.react p = match cls with
    | .warn => s | .hold => s.holdPair p | .recover => s.suspendGroup p | .halt => s.requestSafe := rfl
  refine ⟨fun n => rfl, fun warn => ?_, fun halt run => ?_, fun halt idle => ?_,
    fun m => ⟨fun hold pair => ?_, fun hold pair => ?_⟩, fun g => ⟨fun hold pair => ?_, fun recover pair => ?_,
      fun pair => ?_⟩, fun other => ?_, releasePair_eq p s⟩
  · rw [reacts, warn]
  · rw [reacts, halt]; exact if_pos run
  · rw [reacts, halt]; exact if_neg idle
  · rw [reacts, hold, pair]
    exact setChannel_eq_mapChannels m (Channel.holdTiming false) s
  · rw [reacts, hold, pair]
    exact setChannel_eq_mapChannels m (Channel.holdTiming true) s
  · rw [reacts, hold, pair]
    exact holdPair_driverFault g s
  · rw [reacts, recover, pair]
    exact suspendGroup_driverFault g s
  · subst pair
    exact unsuspendGroup_eq g ended
  · cases p with
    | driverFault g => exact absurd rfl (other g)
    | _ => rfl

end Sys2Proof.Machine
end

section
/-! SUPPORT. The supply, bank swaps, and the mode's commands. -/
namespace Sys2Proof.Machine

variable {s : State}

/-! ### The supply (R147 to R149) -/

theorem evaluateSupply_eq (s : State) : s.evaluateSupply =
    { s with
      sup :=
        { s.sup with
          candidate :=
            if s.indicated = s.sup.band then none
            else
              match s.sup.candidate with
              | none => some { band := s.indicated, start := s.localTime }
              | some c =>
                if c.band = s.indicated then some c
                else some { band := s.indicated, start := s.localTime } } } := by
  simp only [State.evaluateSupply, State.onSup]
  by_cases same : s.indicated = s.sup.band
  · rw [if_pos same, if_pos same]
  · rw [if_neg same, if_neg same]
    cases candidate : s.sup.candidate with
    | none => rfl
    | some c =>
      simp only []
      by_cases band : c.band = s.indicated
      · rw [if_pos band, if_pos band, ← candidate]
      · rw [if_neg band, if_neg band]

theorem enterCut_eq (s : State) : s.enterCut =
    { s.stopActuators with
      sup := { s.sup with dips := if s.sup.dips + 1 ≤ 65535 then s.sup.dips + 1 else 65535 } } := by
  have sup : s.stopActuators.sup = s.sup := by simp
  simp only [State.enterCut, State.onSup, sup, satAdd_one]

theorem takeSupplyFilter_reached {c : Candidate} (h : s.sup.candidate = some c)
    (past : c.start + 16 * (100 * s.node.filterTime) ≤ s.localTime) : s.takeSupplyFilter =
    (({ s with sup := { s.sup with band := c.band, candidate := none } } : State).bandEffects s.sup.band
      c.band).evaluateSupply := by
  have reached : s.supplyFilterReached = true := by
    simp only [State.supplyFilterReached, h, decide_eq_true_eq]; exact past
  simp only [State.takeSupplyFilter, h, reached, if_true, State.takeBand]
  rfl

theorem takeSupplyFilter_early {c : Candidate} (h : s.sup.candidate = some c)
    (early : s.localTime < c.start + 16 * (100 * s.node.filterTime)) : s.takeSupplyFilter = s := by
  have waits : s.supplyFilterReached = false := by
    simp only [State.supplyFilterReached, h, decide_eq_false_iff_not]; exact Nat.not_le.2 early
  simp [State.takeSupplyFilter, h, waits]

theorem takeSupplyFilter_none (h : s.sup.candidate = none) : s.takeSupplyFilter = s := by
  simp [State.takeSupplyFilter, h]

/-- What leaves the list with the band CUT. -/
theorem clearedAfterCut_eq (k : FaultKind) :
    (!k.clearedAfterCut) = decide (k ≠ .supplyLow ∧ k ≠ .supplyCut ∧ k ≠ .driverFault) := by
  cases k <;> rfl

theorem keepsMarks_driverFault (g : Fin 3) (s : State) : s.keepsMarks (.driverFault g) =
    (s.svu.driverFault[g] && decide (s.effectiveClass .driverFault = ReactionClass.hold)) := by
  have same (c : ReactionClass) : (c == .hold) = decide (c = .hold) := by cases c <;> rfl
  simp only [State.keepsMarks, same]
  rfl

theorem mapChannels_mapChannels (f g : Fin 24 → Channel → Channel) (s : State) :
    (s.mapChannels f).mapChannels g = s.mapChannels fun n c => g n (f n c) := by
  simp only [State.mapChannels, State.onStc, tabulate_get]

theorem mapChannels_id (s : State) : (s.mapChannels fun _ c => c) = s := by
  have same : (tabulate fun n : Fin 24 => s.stc.channels[n]) = s.stc.channels := by
    refine Vector.ext fun i hi => ?_
    exact tabulate_get (fun n : Fin 24 => s.stc.channels[n]) ⟨i, hi⟩
  simp only [State.mapChannels, State.onStc, same]

/-- What the lamp shows does not depend on the channels. -/
theorem refreshLamp_mapChannels (f : Fin 24 → Channel → Channel) (s : State) :
    (s.mapChannels f).refreshLamp = s.refreshLamp.mapChannels f := by
  rw [refreshLamp_eq, refreshLamp_eq]
  rfl

/-- A removal of a DRIVER_FAULT record releases its group's hold marks, unless they are kept (R140). -/
theorem releaseRemoved_driverFault (g : Fin 3) (s : State) : s.releaseRemoved (.driverFault g) =
    s.mapChannels fun n c =>
      if groupOf n = g then
        { c with
          marks := { c.marks with driverFault := c.marks.driverFault && s.keepsMarks (.driverFault (groupOf n)) } }
      else c := by
  unfold State.releaseRemoved
  cases kept : s.keepsMarks (.driverFault g) with
  | true =>
    rw [if_pos rfl]
    have same (n : Fin 24) (c : Channel) : (if groupOf n = g then
        { c with
          marks := { c.marks with driverFault := c.marks.driverFault && s.keepsMarks (.driverFault (groupOf n)) } }
        else c) = c := by
      by_cases h : groupOf n = g
      · simp [h, kept]
      · rw [if_neg h]
    rw [mapChannels_congr same, mapChannels_id]
  | false =>
    rw [if_neg Bool.false_ne_true, State.releasePair]
    refine mapChannels_congr (fun n c => ?_) s
    by_cases h : groupOf n = g <;> simp [h, kept]

theorem keepsMarks_mapChannels (f : Fin 24 → Channel → Channel) (p : FaultPair) (s : State) :
    (s.mapChannels f).keepsMarks p = s.keepsMarks p := by
  cases p <;> rfl

/-- The removal of every DRIVER_FAULT record, group by group. -/
theorem releaseGroups_eq (s : State) : allGroups.foldl (fun s g => s.releaseRemoved (.driverFault g)) s =
    s.mapChannels fun n c =>
      { c with
        marks := { c.marks with
          driverFault := c.marks.driverFault && s.keepsMarks (.driverFault (groupOf n)) } } := by
  rw [show allGroups = [0, 1, 2] from rfl]
  simp only [List.foldl, releaseRemoved_driverFault, keepsMarks_mapChannels, mapChannels_mapChannels]
  refine mapChannels_congr (fun n c => ?_) s
  generalize groupOf n = g
  fin_cases g <;> simp

theorem filter_cons_append {α : Type} (p : α → Bool) (a : α) (l : List α) :
    (a :: l).filter p = (if p a = true then [a] else []) ++ l.filter p := by
  rw [List.filter_cons]
  split <;> rfl

/-- The conditions that are re-added when the band leaves CUT (R149). -/
theorem presentAfterCut_eq (s : State) : (.supplyLow :: allGroups.map .driverFault).filter s.present =
    (if s.sup.band = .normal then [] else [.supplyLow])
      ++ (if s.svu.driverFault[0] = true then [.driverFault 0] else [])
      ++ (if s.svu.driverFault[1] = true then [.driverFault 1] else [])
      ++ (if s.svu.driverFault[2] = true then [.driverFault 2] else []) := by
  have band : (if s.present .supplyLow = true then [.supplyLow] else []) =
      (if s.sup.band = .normal then [] else [FaultPair.supplyLow]) := by
    rw [show s.present .supplyLow = (s.sup.band != .normal) from rfl]
    by_cases normal : s.sup.band = .normal <;> simp [normal]
  rw [show allGroups.map FaultPair.driverFault = [.driverFault 0, .driverFault 1, .driverFault 2] from rfl,
    filter_cons_append, band]
  simp only [filter_cons_append, List.filter_nil, List.append_nil, List.append_assoc]
  rfl

theorem setFaults_driverFault (l : List FaultRecord) (s : State) :
    (s.setFaults l).svu.driverFault = s.svu.driverFault := by
  rw [State.setFaults, refreshLamp_eq]
  rfl

/-- A DRIVER_FAULT's hold marks are kept whatever the list holds. -/
theorem keepsMarks_setFaults (l : List FaultRecord) (g : Fin 3) (s : State) :
    (s.setFaults l).keepsMarks (.driverFault g) =
      (s.svu.driverFault[g] && decide (s.effectiveClass .driverFault = ReactionClass.hold)) := by
  have tables : (s.setFaults l).tbs = s.tbs := by simp
  rw [keepsMarks_driverFault, setFaults_driverFault, State.effectiveClass, State.supervisionItem, tables]
  rfl

/-- Settles O49: the thresholds, the candidate, the band's effects in order, and the clearing on leaving CUT. -/
theorem supplyLevelsMakeBands : Obligations.SupplyLevelsMakeBands := by
  intro s
  have filter (awake : s.Awake) : exec .supplyFilterExpiry s = .next s.takeSupplyFilter := running_awake awake _
  refine ⟨fun level => ⟨rfl, rfl, rfl⟩, rfl, evaluateSupply_eq s, fun level awake => ?_, fun level asleep => ?_,
    fun awake none => ?_, fun c awake candidate => ?_, ?_⟩
  · intro x after
    have set : exec (.supplyLevelChange level) s = .next x.evaluateSupply := by
      show Host.Outcome.next (s.setSupplyLevel level) = _
      rw [State.setSupplyLevel, if_neg (by simp [show s.resetting = Option.none from awake])]
      rfl
    rw [evaluateSupply_eq] at set
    refine ⟨fun same => ?_, fun other => ⟨fun c candidate band => ?_, fun new => ?_⟩⟩
    · rw [if_pos (show x.indicated = x.sup.band from same)] at set
      exact set
    · rw [if_neg (show ¬x.indicated = x.sup.band from other), show x.sup.candidate = some c from candidate] at set
      simp only [if_pos band] at set
      exact set
    · rw [if_neg (show ¬x.indicated = x.sup.band from other)] at set
      refine set.trans ?_
      cases candidate : s.sup.candidate with
      | none => rfl
      | some c => simp only [if_neg (new c candidate)]; rfl
  · show Host.Outcome.next (s.setSupplyLevel level) = _
    rw [State.setSupplyLevel, if_pos (Option.isSome_iff_ne_none.2 (show s.resetting ≠ Option.none from asleep))]
    rfl
  · rw [filter awake, takeSupplyFilter_none none]
  · intro y after cutting was
    refine ⟨fun early => ?_, fun past => ?_⟩
    · rw [filter awake, takeSupplyFilter_early candidate early]
    · have taken : s.takeSupplyFilter = (y.bandEffects was c.band).evaluateSupply :=
        takeSupplyFilter_reached candidate past
      refine ⟨fun old new => ?_, fun old new => ?_, fun old new => ?_, fun old new => ?_, fun old new => ?_,
        fun old new => ?_⟩
      all_goals
        rw [old, new] at taken
        refine (filter awake).trans (congrArg _ (taken.trans (congrArg _ ?_)))
      · rfl
      · exact enterCut_eq _
      · exact enterCut_eq _
      · rfl
      · rfl
      · rfl
  · intro kept holds removed again
    have keeps (g : Fin 3) : (s.setFaults kept).keepsMarks (.driverFault g) = holds g := keepsMarks_setFaults kept g s
    have cleared : (s.setFaults (s.svu.faults.filter fun r => !r.pair.kind.clearedAfterCut)) = s.setFaults kept := by
      simp only [clearedAfterCut_eq, kept]
    rw [State.clearAfterCut, cleared, releaseGroups_eq]
    simp only [keeps]
    have supply : (s.setFaults kept).sup = s.sup := by simp
    rw [presentAfterCut_eq, State.mapChannels_sup, State.mapChannels_svu, supply, setFaults_driverFault]
    exact congrArg (State.readd again) (refreshLamp_mapChannels _ _).symm

end Sys2Proof.Machine
end

section
/-! SUPPORT. Bank swaps, the mode's commands, and clears. -/
namespace Sys2Proof.Machine

variable {s : State}

/-! ### Bank swaps (R9 to R11) -/

theorem takeSwapTime_of (h : signedDiff t s.now ≤ 0) (pending : s.tbs.pendingSwap = some t) :
    s.takeSwapTime = { s with tbs := s.tbs.swap } := if_pos ((swapReached_iff s).2 ⟨t, pending, h⟩)

theorem takeSwapTime_not (h : ∀ t, s.tbs.pendingSwap = some t → 0 < signedDiff t s.now) : s.takeSwapTime = s :=
  if_neg fun reached => by
    obtain ⟨t, pending, past⟩ := (swapReached_iff s).1 reached
    exact absurd (h t pending) (Int.not_lt.2 past)

/-- Settles O25: BANKSWAP is checked line by line, and a swap takes effect by `Tbs.swap_eq`. -/
theorem bankSwapsAreCheckedAndTaken : Obligations.BankSwapsAreCheckedAndTaken := by
  intro s awake swapped
  have swapEq (x : State) : ({ x with tbs := x.tbs.swap } : State) = swapped x :=
    congrArg (fun t => ({ x with tbs := t } : State)) (Tbs.swap_eq x.tbs)
  have event : exec .swapTimeReached s = .next s.takeSwapTime := running_awake awake _
  refine ⟨fun p t digest own => ?_, fun t pending => ⟨fun past => ?_, fun early => ?_⟩, fun none => ?_⟩
  · intro heard loadBank
    have run : exec (.bankswap p t digest) s = .next (heard.bankSwap t digest) := exec_own rfl awake own
    have parts : heard.mdc = s.mdc ∧ heard.tbs = s.tbs ∧ heard.scu = s.scu ∧ heard.now = s.now := by
      simp [heard, State.now]
    obtain ⟨mode, tables, clock, now⟩ := parts
    have bank : heard.tbs.loadTables = loadBank := by rw [tables]; rfl
    have reads : heard.bankSwap t digest = if s.mdc.mode = .lockedOut then heard
        else if loadBank.digest ≠ digest then heard.report .bankMismatch
        else if signedDiff t s.now ≤ 0 ∨ s.scu.sync = .unlocked ∨ s.scu.sync = .acquiring then heard.onTbs Tbs.swap
        else heard.onTbs fun b => { b with pendingSwap := some t } := by
      simp only [State.bankSwap, mode, bank, clock, now, notLocked_eq, decide_eq_true_eq, reached_iff]
    rw [run, reads]
    refine ⟨fun locked => by rw [if_pos locked], fun free other => by rw [if_neg free, if_pos other],
      fun free same => ⟨fun atOnce => ?_, fun later timed => ?_⟩⟩
    · rw [if_neg free, if_neg (not_not_intro same), if_pos atOnce]
      exact congrArg _ (swapEq heard)
    · rw [if_neg free, if_neg (not_not_intro same), if_neg]
      · rfl
      · rintro (past | unlocked | acquiring)
        · exact absurd later (Int.not_lt.2 past)
        · simp [unlocked] at timed
        · simp [acquiring] at timed
  · rw [event, takeSwapTime_of past pending, swapEq]
  · rw [event, takeSwapTime_not]
    intro t' pending'
    rwa [Option.some.inj (pending'.symm.trans pending)]
  · rw [event, takeSwapTime_not]
    simp [none]

/-! ### Halting (R67, R88, R97, R155 to R157) -/

theorem truncate_eq (now : ShowTime) (r : StrikerRecord) (c : Channel) : c.truncate now r =
    match c.drive with
    | none => c
    | some d =>
      { c with
        output := false
        drive := none
        window := none
        heat := min 65535 (c.heat + (d.width - (signedDiff (d.start + BitVec.ofNat 32 d.width) now).toNat))
        recoveryEnd :=
          if c.marks.any = true ∨ c.suspended = true then none else some (now + BitVec.ofNat 32 r.recovery) } := by
  unfold Channel.truncate
  cases c.drive with
  | none => rfl
  | some d =>
    simp only [Channel.rest, Channel.marked, Bool.or_eq_true]
    rfl

/-- What stopping the actuators leaves of the channels. -/
def State.truncatedChannels (s : State) : Vector Channel 24 :=
  tabulate fun n => (s.stc.channels[n]).truncate s.now (s.strikerRecord n)

theorem stopActuators_eq (s : State) : s.stopActuators =
    { s with
      dmc := {}
      rot := { s.rot with target := 0, current := 0, output := false, cycle := none, align := none }
      stc := { s.stc with channels := s.truncatedChannels } } := rfl

/-- A waiting entry is flushed, and a due damper entry dropped, so that the schedule is empty (R50, R90). -/
theorem dropDueDampers_flushSchedule_eq (s : State) : s.dropDueDampers.flushSchedule =
    { s with
      sch :=
        { s.sch with
          entries := []
          flushed := s.sch.flushed + BitVec.ofNat 32 (s.sch.entries.countP Entry.isStrike)
          damperDropped := s.sch.damperDropped + BitVec.ofNat 32
            (s.sch.entries.countP fun (y : Entry) => decide (y.isStrike = false ∧ signedDiff y.action s.now ≤ 0))
          damperFlushed := s.sch.damperFlushed + BitVec.ofNat 32
            (s.sch.entries.countP fun (y : Entry) =>
                decide (y.isStrike = false ∧ 0 < signedDiff y.action s.now)) } } := by
  have due (e : Entry) : e.isDueDamper s.now = decide (e.isStrike = false ∧ signedDiff e.action s.now ≤ 0) := by
    simp [Entry.isDueDamper, reached]
  have strikes : (s.sch.entries.filter fun e => !e.isDueDamper s.now).countP Entry.isStrike =
      s.sch.entries.countP Entry.isStrike := by
    rw [List.countP_filter]
    refine List.countP_congr fun e _ => ?_
    simp +contextual [due]
  have waiting : ((s.sch.entries.filter fun e => !e.isDueDamper s.now).countP fun e => !e.isStrike) =
      s.sch.entries.countP fun e => decide (e.isStrike = false ∧ 0 < signedDiff e.action s.now) := by
    rw [List.countP_filter]
    refine List.countP_congr fun e _ => ?_
    simp +contextual [due]
  rw [flushSchedule_eq]
  simp only [State.dropDueDampers, State.onSch, strikes, waiting, asCount]
  rw [show Entry.isDueDamper s.now = _ from funext due]

theorem setMode_safe_eq (s : State) : s.setMode .safe =
    { s with
      mdc := { s.mdc with mode := .safe }
      tbs := { s.tbs with pointer := none }
      svu := { s.svu with lamp := .steady, lampOn := if s.svu.lamp = .steady then s.svu.lampOn else true } } := by
  rw [State.setMode, refreshLamp_eq]
  rfl

theorem haltRecord_iff (s : State) :
    s.haltRecord = true ↔ ∃ r ∈ s.svu.faults, s.effectiveClass r.pair.kind = .halt := by
  simp [State.haltRecord]

/-- Settles O27: HALT is entry into SAFE from RUN, RESUME its reverse where no HALT record stands. -/
theorem haltAndResumeChangeTheMode : Obligations.HaltAndResumeChangeTheMode := by
  refine ⟨fun x => ?_, fun s p awake own => ?_⟩
  · intro isDue isWaiting stopped
    have stops : x.stopActuators = stopped := by
      rw [stopActuators_eq, State.truncatedChannels]
      simp only [truncate_eq]
      rfl
    refine ⟨stops, ?_⟩
    rw [State.enterSafe, stops, dropDueDampers_flushSchedule_eq, setMode_safe_eq]
  · intro heard
    have halted : exec (.halt p) s = .next heard.requestSafe := exec_own rfl awake own
    have resumed : exec (.resume p) s = .next heard.resumeMode := exec_own rfl awake own
    have mode : heard.mdc.mode = s.mdc.mode := by simp [heard]
    have cls (k : FaultKind) : heard.effectiveClass k = s.effectiveClass k := by
      have tables : heard.tbs = s.tbs := by simp [heard]
      rw [State.effectiveClass, State.effectiveClass, State.supervisionItem, State.supervisionItem, tables]
    have record := haltRecord_iff heard
    simp only [cls] at record
    rw [halted, resumed, State.requestSafe, State.resumeMode, mode]
    refine ⟨fun other => by rw [if_neg other], fun run => by rw [if_pos run], fun other => by rw [if_neg other],
      fun safe halt => ?_, fun safe clear => ?_⟩
    · rw [if_pos safe, if_pos (record.2 halt)]
      rfl
    · rw [if_pos safe, if_neg fun halt => let ⟨r, mem, h⟩ := record.1 halt; clear r mem h]
      rfl

end Sys2Proof.Machine
end

section
/-! SUPPORT. COMMIT and the clears of the fault list. -/
namespace Sys2Proof.Machine

variable {s : State}

/-! ### What a report does to the list (R137) -/

/-- A reaction touches the lamp alone of the Supervision Unit. -/
theorem react_records (p : FaultPair) (s : State) : (s.react p).svu.faults = s.svu.faults ∧
    (s.react p).svu.first = s.svu.first ∧ (s.react p).svu.overflow = s.svu.overflow := by
  unfold State.react
  split
  · exact ⟨rfl, rfl, rfl⟩
  · simp
  · simp
  · rw [State.requestSafe, State.enterSafe, dropDueDampers_flushSchedule_eq, setMode_safe_eq, stopActuators_eq]
    split <;> exact ⟨rfl, rfl, rfl⟩

theorem report_records_new {p : FaultPair} (new : ∀ r ∈ s.svu.faults, r.pair ≠ p) (room : s.svu.faults.length < 8) :
    (s.report p).svu.faults = s.svu.faults ++ [s.newRecord p] ∧
      (s.report p).svu.first = some (s.svu.first.getD (s.newRecord p)) ∧
      (s.report p).svu.overflow = s.svu.overflow := by
  have stored : s.storeReport p = s.appendRecord (s.newRecord p) := by
    rw [State.storeReport, if_neg fun has => ?_, if_pos (c := _ < Config.faultCapacity) room]
    obtain ⟨r, mem, same⟩ := (has_iff _ _).1 has
    exact new r mem same
  obtain ⟨faults, first, overflow⟩ := react_records p (s.appendRecord (s.newRecord p))
  have sent : (s.appendRecord (s.newRecord p)).svu = (s.onSvu fun v =>
      { v with
        faults := v.faults ++ [s.newRecord p]
        first := some (v.first.getD (s.newRecord p)) }).refreshLamp.svu := by
    simp [State.appendRecord]
  rw [State.report, stored, faults, first, overflow, sent, refreshLamp_eq]
  exact ⟨rfl, rfl, rfl⟩

theorem report_records_full {p : FaultPair} (new : ∀ r ∈ s.svu.faults, r.pair ≠ p) (full : 8 ≤ s.svu.faults.length) :
    (s.report p).svu.faults = s.svu.faults ∧ (s.report p).svu.first = s.svu.first ∧
      (s.report p).svu.overflow = satAdd 255 s.svu.overflow 1 := by
  have stored : s.storeReport p = s.onSvu fun v => { v with overflow := satAdd 255 v.overflow 1 } := by
    rw [State.storeReport, if_neg fun has => ?_, if_neg (c := _ < Config.faultCapacity) (Nat.not_lt.2 full)]
    obtain ⟨r, mem, same⟩ := (has_iff _ _).1 has
    exact new r mem same
  obtain ⟨faults, first, overflow⟩ := react_records p (s.onSvu fun v => { v with overflow := satAdd 255 v.overflow 1 })
  rw [State.report, stored, faults, first, overflow]
  exact ⟨rfl, rfl, rfl⟩

theorem report_newRecord (p q : FaultPair) (s : State) : (s.report p).newRecord q = s.newRecord q := by
  have clock : (s.report p).scu = s.scu ∧ (s.report p).localTime = s.localTime := by simp
  simp only [State.newRecord, State.now, clock]

/-- Reports of new pairs fill the list up to 8 and overflow beyond. -/
theorem readd_records (ps : List FaultPair) : ∀ s : State,
    (s.svu.faults.map FaultRecord.pair ++ ps).Nodup → s.svu.faults.length ≤ 8 → s.svu.overflow + ps.length ≤ 255 →
    (s.readd ps).svu.faults = s.svu.faults ++ (ps.take (8 - s.svu.faults.length)).map s.newRecord ∧
      (s.readd ps).svu.overflow = s.svu.overflow + (s.svu.faults.length + ps.length - 8) := by
  induction ps with
  | nil => intro s _ few _; simp [State.readd, few]
  | cons p ps ih =>
    intro s nodup few small
    have new : ∀ r ∈ s.svu.faults, r.pair ≠ p := by
      intro r mem same
      rw [List.nodup_append] at nodup
      exact nodup.2.2 r.pair (List.mem_map_of_mem mem) p List.mem_cons_self same
    have again : (s.readd (p :: ps)) = (s.report p).readd ps := rfl
    have record : (s.report p).newRecord = s.newRecord := funext fun q => report_newRecord p q s
    rw [List.length_cons] at small
    by_cases room : s.svu.faults.length < 8
    · obtain ⟨faults, -, overflow⟩ := report_records_new new room
      have step := ih (s.report p) (by simpa [faults, State.newRecord] using nodup)
        (by rw [faults, List.length_append]; exact room) (by rw [overflow]; omega)
      rw [faults, overflow, record, List.length_append, List.length_singleton, ← again] at step
      obtain ⟨k, left⟩ : ∃ k, 8 - s.svu.faults.length = k + 1 := ⟨7 - s.svu.faults.length, by omega⟩
      have less : 8 - (s.svu.faults.length + 1) = k := by omega
      rw [step.1, step.2, left, less, List.length_cons]
      exact ⟨by simp, by omega⟩
    · have full : s.svu.faults.length = 8 := by omega
      obtain ⟨faults, -, overflow⟩ := report_records_full new (Nat.not_lt.1 room)
      rw [satAdd_eq, if_neg (by omega)] at overflow
      have pairs : (s.svu.faults.map FaultRecord.pair ++ ps).Nodup :=
        nodup.sublist ((List.Sublist.refl _).append (List.sublist_cons_self p ps))
      have step := ih (s.report p) (by rwa [faults]) (by rw [faults, full]) (by rw [overflow]; omega)
      rw [faults, overflow, ← again, full] at step
      rw [step.1, step.2, full, List.length_cons]
      exact ⟨rfl, by omega⟩

/-! ### Clears (R141) -/

/-- The list and the hold marks emptied, but for those that stay (R140, R141). -/
def State.clearedFaults (s : State) : State :=
  { s with
    svu := { s.svu with faults := [], overflow := 0 }
    stc :=
      { s.stc with
        channels := tabulate fun n =>
          let c := s.stc.channels[n]
          { c with
            marks :=
              { noImpact := false, offTime := false
                driverFault := c.marks.driverFault && (s.svu.driverFault[groupOf n] &&
                  decide (s.effectiveClass .driverFault = ReactionClass.hold)) } } } }.refreshLamp

/-- The conditions present, those with records first (R141). -/
def State.standing (s : State) : List FaultPair :=
  (s.svu.faults.map FaultRecord.pair).filter s.present ++
    s.presentConditions.filter fun q => !(s.svu.faults.map FaultRecord.pair).contains q

theorem clearAll_eq (s : State) : s.clearAll = s.standing.foldl (fun x q => x.report q) s.clearedFaults := by
  have kept (g : Fin 3) : ((s.setFaults []).onSvu fun v => { v with overflow := 0 }).keepsMarks (.driverFault g) =
      (s.svu.driverFault[g] && decide (s.effectiveClass .driverFault = ReactionClass.hold)) :=
    Eq.trans rfl (keepsMarks_setFaults [] g s)
  have released : ((s.setFaults []).onSvu fun v => { v with overflow := 0 }).releaseAll = s.clearedFaults := by
    rw [State.releaseAll]
    simp only [kept]
    rw [State.clearedFaults, State.setFaults, refreshLamp_eq, refreshLamp_eq]
    rfl
  rw [State.clearAll, released]
  rfl

theorem mem_conditionPairs {q : FaultPair} (h : s.present q = true) : q ∈ conditionPairs := by
  cases q with
  | driverFault g => fin_cases g <;> decide
  | linkErrors p => cases p <;> decide
  | supplyLow | supplyCut | downstreamLost | chainTooLong => decide
  | _ => exact absurd h Bool.false_ne_true

theorem present_isCondition {q : FaultPair} (h : s.present q = true) : q.kind.isCondition = true := by
  have conditions : ∀ q ∈ conditionPairs, q.kind.isCondition = true := by decide
  exact conditions q (mem_conditionPairs h)

theorem mem_standing_iff (q : FaultPair) : q ∈ s.standing ↔ s.present q = true := by
  simp only [State.standing, State.presentConditions, List.mem_append, List.mem_filter, Bool.not_eq_true',
    List.contains_eq_mem, decide_eq_false_iff_not]
  have listed := fun h => mem_conditionPairs (s := s) (q := q) h
  tauto

theorem standing_nodup (h : (s.svu.faults.map FaultRecord.pair).Nodup) : s.standing.Nodup := by
  have conditions : conditionPairs.Nodup := by decide
  refine List.Nodup.append (h.filter _) ((conditions.filter _).filter _) fun q old new => ?_
  simp only [List.mem_filter, Bool.not_eq_true', List.contains_eq_mem, decide_eq_false_iff_not] at old new
  exact new.2 old.1

theorem standing_length (h : (s.svu.faults.map FaultRecord.pair).Nodup) : s.standing.length ≤ 9 :=
  ((standing_nodup h).subperm fun q mem => mem_conditionPairs ((mem_standing_iff q).1 mem)).length_le

/-- A counted frame leaves the pairs of the list as they are. -/
theorem countGood_pairs (p : Port) (s : State) :
    (s.countGood p).svu.faults.map FaultRecord.pair = s.svu.faults.map FaultRecord.pair := by
  have deactivated (q : FaultPair) (t : State) :
      (t.deactivate q).svu.faults.map FaultRecord.pair = t.svu.faults.map FaultRecord.pair := by
    simp only [State.deactivate, State.onSvu, List.map_map]
    refine List.map_congr_left fun r _ => ?_
    simp only [Function.comp]
    split <;> rfl
  cases p <;>
  · unfold State.countGood State.leakFell
    simp only []
    split
    · exact deactivated _ _
    · rfl

/-- Settles O26: a COMMIT that is taken is RUN entered and then `clearAll_eq`. -/
theorem commitEntersRun : Obligations.CommitEntersRun := by
  intro s p digest awake own heard
  have run : exec (.commit p digest) s = .next (heard.commitTables digest) := exec_own rfl awake own
  have parts : heard.mdc = s.mdc ∧ heard.tbs = s.tbs := by simp [heard]
  have reads : heard.commitTables digest = if s.mdc.mode = .idle ∨ s.mdc.mode = .config then
      (if s.tbs.configDigest = digest then ((heard.onMdc fun c => { c with timer := none }).setMode .run).emptyFaults
        else heard.report .commitMismatch)
      else heard := by
    simp only [State.commitTables, parts]
  rw [run, reads]
  refine ⟨fun other => ?_, fun mode wrong => ?_, fun mode right => ?_⟩
  · rw [if_neg]
    rintro (idle | config)
    · simp [idle] at other
    · simp [config] at other
  · rw [if_pos mode, if_neg wrong]
  · rw [if_pos mode, if_pos right]
    intro old again kept playing emptied
    have plays : (heard.onMdc fun c => { c with timer := none }).setMode .run = playing := rfl
    have stands : (playing.emptyFirst).standing = again := by
      simp only [playing, refreshLamp_eq]
      rfl
    have clears : (playing.emptyFirst).clearedFaults = emptied := by
      simp only [playing, emptied, refreshLamp_eq, State.clearedFaults]
      rfl
    rw [plays, show playing.emptyFaults = playing.emptyFirst.clearAll from rfl, clearAll_eq, stands, clears]

theorem readPair_eq (k n : Byte) : readPair k n =
    match k.toNat with
    | 0 => if h : n.toNat < 24 then some (.noImpact ⟨n.toNat, h⟩) else none
    | 1 => if h : n.toNat < 24 then some (.offTime ⟨n.toNat, h⟩) else none
    | 2 => if h : n.toNat < 3 then some (.driverFault ⟨n.toNat, h⟩) else none
    | 3 => some .supplyLow
    | 4 => some .supplyCut
    | 5 => some .clockWindow
    | 6 => some .clockLost
    | 7 => if n = 0 then some (.linkErrors .upstream) else if n = 1 then some (.linkErrors .downstream) else none
    | 8 => some .downstreamLost
    | 9 => some .chainTooLong
    | 10 => some .scheduleFull
    | 11 => some .returnOverflow
    | 12 => (readTable n).map .loadError
    | 13 => some .bankMismatch
    | 14 => some .commitMismatch
    | 15 => some .configTimeout
    | _ => none := by
  unfold readPair
  generalize k.toNat = code
  match code with
  | 0 | 1 => simp only [readStriker]; split <;> rfl
  | 2 => simp only [readGroup]; split <;> rfl
  | 7 =>
    simp only [readPort]
    by_cases up : n = 0
    · rw [if_pos up, if_pos up]; rfl
    · rw [if_neg up, if_neg up]
      by_cases down : n = 1
      · rw [if_pos down, if_pos down]; rfl
      · rw [if_neg down, if_neg down]; rfl
  | 3 | 4 | 5 | 6 | 8 | 9 | 10 | 11 | 12 | 13 | 14 | 15 => rfl
  | _ + 16 => rfl

/-- The conditions, each with what makes it present (R148). -/
def State.conditions (s : State) : List (FaultPair × Bool) :=
  [(.driverFault 0, s.svu.driverFault[0]), (.driverFault 1, s.svu.driverFault[1]),
    (.driverFault 2, s.svu.driverFault[2]), (.supplyLow, decide (s.sup.band ≠ .normal)),
    (.supplyCut, decide (s.sup.band = .cut)), (.linkErrors .upstream, s.liu.errorsUp),
    (.linkErrors .downstream, s.liu.errorsDown), (.downstreamLost, s.pdu.downstreamLost),
    (.chainTooLong, s.liu.chainTooLong)]

theorem conditions_fst (s : State) : s.conditions.map Prod.fst = conditionPairs := rfl

theorem present_conditions (s : State) : ∀ x ∈ s.conditions, s.present x.1 = x.2 := by
  have low : s.present .supplyLow = decide (s.sup.band ≠ .normal) := by
    simp only [State.present]; cases s.sup.band <;> rfl
  have cut : s.present .supplyCut = decide (s.sup.band = .cut) := by
    simp only [State.present]; cases s.sup.band <;> rfl
  simp only [State.conditions, List.forall_mem_cons]
  exact ⟨rfl, rfl, rfl, low, cut, rfl, rfl, rfl, rfl, fun _ none => absurd none List.not_mem_nil⟩

theorem presentConditions_eq (s : State) : s.presentConditions = (s.conditions.filter Prod.snd).map Prod.fst := by
  rw [State.presentConditions, ← conditions_fst s, List.filter_map]
  exact congrArg _ (List.filter_congr fun x mem => present_conditions s x mem)

/-- What the removal of one record leaves (R140, R141). -/
def State.withoutPair (q : FaultPair) (s : State) : State :=
  let removed := s.setFaults (s.svu.faults.filter fun r => r.pair != q)
  if s.present q = true ∧ s.effectiveClass q.kind = .hold then removed else removed.releasePair q

theorem setFaults_present (l : List FaultRecord) (q : FaultPair) (s : State) :
    (s.setFaults l).present q = s.present q := by
  rw [State.setFaults, refreshLamp_eq]
  cases q <;> rfl

theorem clearPair_absent {q : FaultPair} (h : ∀ r ∈ s.svu.faults, r.pair ≠ q) : s.clearPair q = s :=
  if_neg fun has => let ⟨r, mem, same⟩ := (has_iff _ _).1 has; h r mem same

theorem withoutPair_present (q p : FaultPair) (s : State) : (s.withoutPair q).present p = s.present p := by
  rw [State.withoutPair]
  split
  · exact setFaults_present _ p s
  · have released (t : State) : (t.releasePair q).present p = t.present p := by cases p <;> rfl
    rw [released, setFaults_present]

theorem clearPair_listed {q : FaultPair} (h : ∃ r ∈ s.svu.faults, r.pair = q) : s.clearPair q =
    if s.present q = true then (s.withoutPair q).report q else s.withoutPair q := by
  have removed : (s.setFaults (s.svu.faults.filter fun r => r.pair != q)).releaseRemoved q = s.withoutPair q := by
    have keeps (l : List FaultRecord) : (s.setFaults l).keepsMarks q = true ↔
        s.present q = true ∧ s.effectiveClass q.kind = .hold := by
      simp [State.keepsMarks, setFaults_present, State.effectiveClass, State.supervisionItem]
    simp only [State.releaseRemoved, State.withoutPair, keeps]
  rw [State.clearPair, if_pos ((has_iff _ _).2 h), removed]
  simp only [withoutPair_present]

theorem withoutPair_svu (q : FaultPair) (s : State) :
    (s.withoutPair q).svu = (s.setFaults (s.svu.faults.filter fun r => r.pair != q)).svu := by
  rw [State.withoutPair]
  split
  · rfl
  · simp

theorem setFaults_records (l : List FaultRecord) (s : State) : (s.setFaults l).svu.faults = l ∧
    (s.setFaults l).svu.first = s.svu.first ∧ (s.setFaults l).svu.overflow = s.svu.overflow := by
  rw [State.setFaults, refreshLamp_eq]
  exact ⟨rfl, rfl, rfl⟩

@[simp] theorem withoutPair_frame (q : FaultPair) (s : State) : (s.withoutPair q).scu = s.scu ∧
    (s.withoutPair q).pdu = s.pdu ∧ (s.withoutPair q).acu = s.acu ∧ (s.withoutPair q).sup = s.sup ∧
    (s.withoutPair q).sch = s.sch ∧ (s.withoutPair q).mdc = s.mdc ∧ (s.withoutPair q).tbs = s.tbs ∧
    (s.withoutPair q).liu = s.liu ∧ (s.withoutPair q).localTime = s.localTime := by
  simp only [State.withoutPair]
  split <;> simp

theorem clearedFaults_records (s : State) :
    s.clearedFaults.svu.faults = [] ∧ s.clearedFaults.svu.overflow = 0 := by
  rw [State.clearedFaults, refreshLamp_eq]
  exact ⟨rfl, rfl⟩

@[simp] theorem clearedFaults_frame (s : State) : s.clearedFaults.scu = s.scu ∧ s.clearedFaults.pdu = s.pdu ∧
    s.clearedFaults.acu = s.acu ∧ s.clearedFaults.sup = s.sup ∧ s.clearedFaults.localTime = s.localTime := by
  simp [State.clearedFaults]

theorem clearedFaults_marks (clear : s.standing = []) (n : Fin 24) : (s.clearedFaults.channel n).marks = {} := by
  have absent : s.svu.driverFault[groupOf n] = false := by
    have not_standing := mt (mem_standing_iff (s := s) (.driverFault (groupOf n))).2
    rw [clear] at not_standing
    exact Bool.eq_false_iff.2 (not_standing List.not_mem_nil)
  have channels : s.clearedFaults.channel n =
      { s.stc.channels[n] with
        marks :=
          { noImpact := false, offTime := false
            driverFault := s.stc.channels[n].marks.driverFault && (s.svu.driverFault[groupOf n] &&
              decide (s.effectiveClass .driverFault = ReactionClass.hold)) } } := by
    rw [State.clearedFaults, refreshLamp_eq]
    exact tabulate_get _ n
  rw [channels, absent, Bool.false_and, Bool.and_false]

/-- CLEAR all by its outcome: at most 8 of the standing conditions are recorded anew, and a ninth overflows. -/
theorem clearAll_records (nodup : (s.svu.faults.map FaultRecord.pair).Nodup) :
    s.clearAll.svu.faults = (s.standing.take 8).map s.newRecord ∧
      s.clearAll.svu.overflow = s.standing.length - 8 := by
  obtain ⟨none, zero⟩ := clearedFaults_records s
  have nine := standing_length nodup
  have filled := readd_records s.standing s.clearedFaults (by rw [none]; exact standing_nodup nodup)
    (by rw [none]; exact Nat.zero_le 8) (by rw [zero]; omega)
  have record : s.clearedFaults.newRecord = s.newRecord := by
    funext q
    simp [State.newRecord, State.now]
  rw [none, zero, record] at filled
  rw [show s.clearAll = s.clearedFaults.readd s.standing from clearAll_eq s, filled.1, filled.2]
  exact ⟨rfl, by simp⟩

/-- CLEAR of a listed record by its outcome: the record goes, and comes back as a new one if its condition stands. -/
theorem clearPair_records {q : FaultPair} (few : s.svu.faults.length ≤ 8) (h : ∃ r ∈ s.svu.faults, r.pair = q) :
    let others := s.svu.faults.filter fun r => r.pair != q
    (s.clearPair q).svu.first =
        (if s.present q = true ∧ s.svu.first = none then some (s.newRecord q) else s.svu.first) ∧
      (s.clearPair q).svu.faults = (if s.present q = true then others ++ [s.newRecord q] else others) ∧
      (s.clearPair q).svu.overflow = s.svu.overflow := by
  intro others
  obtain ⟨faults, first, overflow⟩ := setFaults_records others s
  rw [← withoutPair_svu q s] at faults first overflow
  have record : (s.withoutPair q).newRecord q = s.newRecord q := by simp [State.newRecord, State.now]
  have new : ∀ r ∈ (s.withoutPair q).svu.faults, r.pair ≠ q := by
    rw [faults]
    simp [others]
  have room : (s.withoutPair q).svu.faults.length < 8 := by
    rw [faults]
    obtain ⟨r, mem, same⟩ := h
    exact Nat.lt_of_lt_of_le (List.length_filter_lt_length_iff_exists.2 ⟨r, mem, by simp [same]⟩) few
  rw [clearPair_listed h]
  by_cases present : s.present q = true
  · obtain ⟨appended, copied, counted⟩ := report_records_new new room
    rw [if_pos present, if_pos present, appended, copied, counted, faults, first, overflow, record]
    refine ⟨?_, rfl, rfl⟩
    cases s.svu.first <;> simp [present]
  · rw [if_neg present, if_neg present, faults, first, overflow, if_neg fun both => present both.1]
    exact ⟨rfl, rfl, rfl⟩

/-- Settles O29: the conditions by `presentConditions_eq`, the codes by `readPair_eq`, and the two clears by what they
leave of the list. -/
theorem clearsRemoveAndReaddRecords : Obligations.ClearsRemoveAndReaddRecords := by
  refine ⟨fun s => ⟨presentConditions_eq s, present_conditions s, fun q other => ?_⟩, readPair_eq,
    fun s p awake own few nodup => ?_⟩
  · by_contra present
    have listed := mem_conditionPairs (Bool.not_eq_false _ ▸ present)
    rw [← conditions_fst s] at listed
    obtain ⟨x, mem, same⟩ := List.mem_map.1 listed
    exact other x mem same
  intro heard
  have pairs : heard.svu.faults.map FaultRecord.pair = s.svu.faults.map FaultRecord.pair := countGood_pairs .upstream s
  have fewHeard : heard.svu.faults.length ≤ 8 := by
    have length := congrArg List.length pairs
    rw [List.length_map, List.length_map] at length
    omega
  have nodupHeard : (heard.svu.faults.map FaultRecord.pair).Nodup := pairs ▸ nodup
  have now : heard.now = s.now := by simp [heard, State.now]
  have run (k n : Byte) : exec (.clearRecord p k n) s = .next (heard.clearNamed k n) := exec_own rfl awake own
  have named {k n : Byte} {q : FaultPair} (h : readPair k n = some q) : heard.clearNamed k n = heard.clearPair q := by
    rw [State.clearNamed, h]
  refine ⟨fun k n none => ?_, fun k n q code absent => ?_, fun k n q code listed => ?_, ?_⟩
  · rw [run, State.clearNamed, none]
  · rw [run, named code, clearPair_absent absent]
  · intro others removed released
    obtain ⟨first, faults, overflow⟩ := clearPair_records fewHeard listed
    have frame := State.clearPair_frame q heard
    obtain ⟨scu, pdu, acu, sup, -⟩ := frame
    refine ⟨heard.clearPair q, by rw [run, named code], clearPair_listed listed, first, faults, overflow, scu, pdu, acu,
      sup, fun gone => ?_⟩
    have left : heard.clearPair q = removed.releasePair q := by
      rw [clearPair_listed listed, if_neg (by simp [gone]), State.withoutPair, if_neg (by simp [gone])]
      rfl
    rw [left]
    simp [removed, State.releasePair]
  · intro old again kept emptied
    obtain ⟨faults, overflow⟩ := clearAll_records nodupHeard
    obtain ⟨scu, pdu, acu, sup, -⟩ := State.clearAll_frame heard
    refine ⟨heard.clearAll, exec_own rfl awake own, clearAll_eq heard, ?_, fun r mem => ?_, overflow, scu, pdu, acu,
      sup,
      fun none n => ?_⟩
    · rw [faults, List.map_map, show FaultRecord.pair ∘ heard.newRecord = id from rfl, List.map_id]
      rfl
    · rw [faults] at mem
      obtain ⟨q, taken, rfl⟩ := List.mem_map.1 mem
      have present := (mem_standing_iff q).1 (List.mem_of_mem_take taken)
      exact ⟨rfl, present_isCondition present, now, now⟩
    · have clears : heard.clearAll = heard.clearedFaults := by
        rw [clearAll_eq, show heard.standing = [] from none]
        rfl
      rw [clears]
      exact clearedFaults_marks none n

end Sys2Proof.Machine
end

section
/-! SUPPORT. The load pointer and what a write does. -/
namespace Sys2Proof.Machine

variable {s : State}

/-! ### The load pointer (R164, R165) -/

theorem TableId.writable_iff (t : TableId) (m : Mode) : t.writable m = true ↔
    (m = .idle ∨ m = .config ∨ ((m = .run ∨ m = .safe) ∧ (t = .note ∨ t = .curve ∨ t = .articulation))) := by
  rw [← TableId.banked_iff]
  cases m <;> simp [TableId.writable]

theorem readTable_of_above {b : Byte} (h : 6 < b.toNat) : readTable b = none := by
  unfold readTable
  obtain ⟨k, code⟩ : ∃ k, b.toNat = k + 7 := ⟨b.toNat - 7, by omega⟩
  rw [code]
  rfl

/-- Settles O22: LOAD_OPEN decides by the table, the mode and the start. -/
theorem loadOpenSetsThePointer : Obligations.LoadOpenSetsThePointer := by
  refine ⟨TableId.writable_iff, fun s p table start awake own => ?_⟩
  intro heard pointing
  have run : exec (.loadOpen p table start) s = .next (heard.openPointer table start.toNat) :=
    exec_own rfl awake own
  have mode : heard.mdc = s.mdc := by simp [heard]
  refine ⟨fun above => ?_, fun t named => ?_⟩
  · rw [run, State.openPointer, readTable_of_above above]
    rfl
  · rw [run, State.openPointer, named, mode]
    refine ⟨fun refused => ?_, fun writable inside => ?_⟩
    · exact congrArg _ (if_pos refused)
    · refine congrArg _ (if_neg ?_)
      rintro (not_writable | beyond)
      · simp [writable] at not_writable
      · exact absurd inside (Nat.not_lt.2 beyond)

theorem TableId.wholeItems_iff (t : TableId) (bs : List Byte) : t.wholeItems bs = true ↔
    bs.length % t.itemSize = 0 ∧ 1 ≤ bs.length / t.itemSize ∧ bs.length / t.itemSize ≤ 16 := by
  simp [TableId.wholeItems, and_assoc]

/-- LOAD_DATA with the pointer open, once its bytes are whole items in their order (R165). -/
theorem loadItems_whole {o : LoadPointer} {n : Byte} {bs : List Byte} (pointer : s.tbs.pointer = some o)
    (sequence : n = o.sequence) (whole : o.table.wholeItems bs = true) : s.loadItems n bs =
    let k := bs.length / o.table.itemSize
    let fits := min k (o.table.count - o.next)
    let written := s.writeItems o.table fits o.next bs
    let done := if 0 < fits then written.afterWrite o.table else written
    if o.table.count < o.next + k then done.loadError o.table
    else if o.next + k = o.table.count then done.setPointer none
    else done.setPointer (some { table := o.table, next := o.next + k, sequence := o.sequence + 1 }) := by
  simp only [State.loadItems, pointer]
  rw [if_neg]
  rintro (other | ragged)
  · exact other sequence
  · simp [whole] at ragged

theorem loadItems_error {o : LoadPointer} {n : Byte} {bs : List Byte} (pointer : s.tbs.pointer = some o)
    (h : n ≠ o.sequence ∨ o.table.wholeItems bs = false) : s.loadItems n bs = s.loadError o.table := by
  simp only [State.loadItems, pointer]
  rw [if_pos h]

/-- Settles O23: LOAD_DATA by the first line that applies. -/
theorem loadDataWritesWholeItems : Obligations.LoadDataWritesWholeItems := by
  intro s p n bs awake own heard pointing
  have run : exec (.loadData p n bs) s = .next (heard.loadItems n bs) := exec_own rfl awake own
  have tables : heard.tbs = s.tbs := by simp [heard]
  refine ⟨fun closed => ?_, fun o opened => ?_⟩
  · have pointer : heard.tbs.pointer = none := by rw [tables]; exact closed
    rw [run, State.loadItems, pointer]
    rfl
  · intro k whole error
    have pointer : heard.tbs.pointer = some o := by rw [tables]; exact opened
    refine ⟨fun other => ?_, fun _ ragged => ?_, fun sequence fine before => ?_, fun sequence fine atEnd => ?_,
      fun sequence fine past inside => ?_⟩
    · rw [run, loadItems_error pointer (.inl other)]
      rfl
    · rw [run, loadItems_error pointer (.inr (Bool.eq_false_iff.2 (mt (TableId.wholeItems_iff _ _).1 ragged)))]
      rfl
    · have fits : min k (o.table.count - o.next) = k := Nat.min_eq_left (by omega)
      rw [run, loadItems_whole pointer sequence ((TableId.wholeItems_iff _ _).2 fine)]
      simp only [show bs.length / o.table.itemSize = k from rfl, fits, if_pos (show 0 < k from fine.2.1),
        if_neg (show ¬o.table.count < o.next + k by omega), if_neg (show ¬o.next + k = o.table.count by omega)]
      rfl
    · have fits : min k (o.table.count - o.next) = k := Nat.min_eq_left (by omega)
      rw [run, loadItems_whole pointer sequence ((TableId.wholeItems_iff _ _).2 fine)]
      simp only [show bs.length / o.table.itemSize = k from rfl, fits, if_pos (show 0 < k from fine.2.1),
        if_neg (show ¬o.table.count < o.next + k by omega), if_pos atEnd]
      rfl
    · have fits : min k (o.table.count - o.next) = o.table.count - o.next := Nat.min_eq_right (by omega)
      rw [run, loadItems_whole pointer sequence ((TableId.wholeItems_iff _ _).2 fine)]
      simp only [show bs.length / o.table.itemSize = k from rfl, fits,
        if_pos (show 0 < o.table.count - o.next by omega), if_pos past]
      rfl

end Sys2Proof.Machine
end

section
/-! SUPPORT. Items of the tables, read number by number from their bytes (R5 to R7, R162, R163, R177). -/
namespace Sys2Proof.Machine

theorem at2_toNat (bs : List Byte) (i : Nat) :
    (at2 bs i).toNat = 256 * (bs.getD i 0).toNat + (bs.getD (i + 1) 0).toNat := by
  have low := (at1 bs (i + 1)).isLt
  rw [at2, BitVec.toNat_append, ← Nat.shiftLeft_add_eq_or_of_lt low, Nat.shiftLeft_eq]
  simp only [at1]
  omega

theorem at3_toNat (bs : List Byte) (i : Nat) : (at3 bs i).toNat =
    65536 * (bs.getD i 0).toNat + 256 * (bs.getD (i + 1) 0).toNat + (bs.getD (i + 2) 0).toNat := by
  have low := (at1 bs (i + 2)).isLt
  rw [show at3 bs i = at2 bs i ++ at1 bs (i + 2) from rfl, BitVec.toNat_append,
    ← Nat.shiftLeft_add_eq_or_of_lt low, Nat.shiftLeft_eq, at2_toNat]
  simp only [at1]
  omega

theorem at1_getLsbD (bs : List Byte) (i bit : Nat) :
    (at1 bs i).getLsbD bit = decide ((bs.getD i 0).toNat / 2 ^ bit % 2 = 1) := Nat.testBit_eq_decide_div_mod_eq

/-- A word's signed number. -/
theorem toInt_eq_ite {w : Nat} (x : BitVec w) :
    x.toInt = if 2 * x.toNat < 2 ^ w then (x.toNat : Int) else (x.toNat : Int) - (2 ^ w : Nat) := x.toInt_eq_toNat_cond

theorem min_eq_clampNat (top n : Nat) : min top n = clampNat 0 top n := by
  rw [clampNat, if_neg (Nat.not_lt_zero n)]
  exact min_eq_clamp top n

theorem max_one_eq_clampNat (b : Byte) : max 1 b.toNat = clampNat 1 255 b.toNat := by
  have small := b.isLt
  unfold clampNat
  split
  · omega
  · rw [if_neg (by omega)]; omega

theorem at1_eq_iff (bs : List Byte) (i : Nat) : at1 bs i = 255 ↔ (bs.getD i 0).toNat = 255 :=
  ⟨fun h => congrArg BitVec.toNat h, fun h => BitVec.eq_of_toNat_eq h⟩

theorem StrikerRecord.ofBytes_eq (bs : List Byte) :
    let b (i : Nat) : Nat := (bs.getD i 0).toNat
    let two (i : Nat) : Nat := 256 * b i + b (i + 1)
    let flagged (i bit : Nat) : Bool := decide (b i / 2 ^ bit % 2 = 1)
    StrikerRecord.ofBytes bs =
      { enabled := flagged 0 0, sense := flagged 0 1, adapt := flagged 0 2
        fHard := clampNat 0 4095 (two 1), fSoft := clampNat 0 4095 (two 3), wMin := clampNat 0 2047 (two 5)
        wMax := clampNat 0 2047 (two 7), recovery := two 9, hDerate := two 11, hCut := two 13, cooling := b 15
        impactWindow := clampNat 0 1023 (two 16)
        trimSeed := clampInt (-512) 511 (if 2 * two 18 < 65536 then two 18 else (two 18 : Int) - (65536 : Nat)) } := by
  intro b two flagged
  have number (i : Nat) : (at2 bs i).toNat = two i := at2_toNat bs i
  have signed : (at2 bs 18).toInt = if 2 * two 18 < 65536 then (two 18 : Int) else (two 18 : Int) - (65536 : Nat) := by
    rw [toInt_eq_ite, number]
    rfl
  simp only [StrikerRecord.ofBytes, number, signed, at1_getLsbD, min_eq_clampNat]
  rfl

theorem DamperRecord.ofBytes_eq (bs : List Byte) :
    let b (i : Nat) : Nat := (bs.getD i 0).toNat
    let two (i : Nat) : Nat := 256 * b i + b (i + 1)
    DamperRecord.ofBytes bs =
      { enabled := decide (b 0 / 2 ^ 0 % 2 = 1), releaseTravel := two 1, engageTravel := two 3,
        chokeHold := two 5 } := by
  simp only [DamperRecord.ofBytes, at2_toNat, at1_getLsbD]

theorem readGroupAddress_eq (bs : List Byte) (i : Nat) :
    readGroupAddress (at1 bs i) = if (bs.getD i 0).toNat = 255 then none else some (bs.getD i 0) :=
  if_congr (at1_eq_iff bs i) rfl rfl

theorem NodeRecord.ofBytes_eq (bs : List Byte) :
    let b (i : Nat) : Nat := (bs.getD i 0).toNat
    let two (i : Nat) : Nat := 256 * b i + b (i + 1)
    let flagged (i bit : Nat) : Bool := decide (b i / 2 ^ bit % 2 = 1)
    let group (i : Nat) : Option Byte := if b i = 255 then none else some (bs.getD i 0)
    NodeRecord.ofBytes bs =
      { ensemble := if b 0 = 255 then 254 else bs.getD 0 0
        group1 := group 1, group2 := group 2, group3 := group 3
        compensation := flagged 4 0, chainEnd := flagged 4 1, notices := flagged 4 2
        rotorEnabled := flagged 4 3, indexEnabled := flagged 4 4
        markPeriod := clampNat 100 50000 (two 5)
        holdoverLimit := clampNat 1000 16777215 (65536 * b 7 + 256 * b 8 + b 9)
        setupMargin := clampNat 0 1000 (two 10), lateTolerance := two 12, lowThreshold := b 14
        cutThreshold := b 15, hysteresis := b 16, filterTime := clampNat 1 255 (b 17)
        stepsPerRev := clampNat 1 1000 (two 18), rampStep := clampNat 1 255 (b 20) } := by
  intro b two flagged group
  have ensemble : (if at1 bs 0 = 255 then 254 else at1 bs 0) = if b 0 = 255 then (254 : Byte) else bs.getD 0 0 :=
    if_congr (at1_eq_iff bs 0) rfl rfl
  simp only [NodeRecord.ofBytes, ensemble, at2_toNat, at3_toNat, at1_getLsbD, min_eq_clampNat, max_one_eq_clampNat,
    readGroupAddress_eq]
  rfl

/-- The class of the two low bits. -/
theorem SupervisionItem.ofBytes_eq (bs : List Byte) :
    let b : Nat := (bs.getD 0 0).toNat
    SupervisionItem.ofBytes bs =
      { reaction := (match b % 4 with | 0 => .warn | 1 => .hold | 2 => .recover | _ => .halt)
        notice := decide (b / 2 ^ 7 % 2 = 1) } := by
  intro b
  simp only [SupervisionItem.ofBytes, at1_getLsbD]
  congr 1
  have low : b / 2 ^ 0 % 2 = b % 4 % 2 := by omega
  have high : b / 2 ^ 1 % 2 = b % 4 / 2 := by omega
  have few : b % 4 < 4 := Nat.mod_lt _ (by decide)
  show (match decide (b / 2 ^ 1 % 2 = 1), decide (b / 2 ^ 0 % 2 = 1) with
    | false, false => ReactionClass.warn
    | false, true => .hold
    | true, false => .recover
    | true, true => .halt) = _
  rw [low, high]
  generalize b % 4 = code at few
  interval_cases code <;> rfl

theorem readBelow_getD (n : Nat) [NeZero n] (b : Byte) :
    (readBelow n b).getD 0 = if h : b.toNat < n then ⟨b.toNat, h⟩ else 0 := by
  unfold readBelow
  split <;> rfl

theorem readCurve_eq (b : Byte) : readCurve b = if h : b.toNat < 8 then ⟨b.toNat, h⟩ else 7 := by
  refine Fin.ext ?_
  simp only [readCurve]
  split
  · exact Nat.min_eq_right (by omega)
  · exact Nat.min_eq_left (by omega)

theorem toInt_byte_eq_ite (b : Byte) :
    b.toInt = if 2 * b.toNat < 256 then (b.toNat : Int) else (b.toNat : Int) - (256 : Nat) := toInt_eq_ite b

theorem NoteEntry.ofBytes_eq (bs : List Byte) :
    let b (i : Nat) : Nat := (bs.getD i 0).toNat
    NoteEntry.ofBytes bs =
      { enabled := decide (b 0 ≠ 0 ∧ b 1 < 24)
        primary := if h : b 1 < 24 then ⟨b 1, h⟩ else 0
        alternate := if h : b 2 < 24 then some ⟨b 2, h⟩ else none
        curve := if h : b 3 < 8 then ⟨b 3, h⟩ else 7
        offset := clampInt (-16) 15 (if 2 * b 4 < 256 then b 4 else (b 4 : Int) - (256 : Nat))
        choke := if h : b 5 < 4 then some ⟨b 5, h⟩ else none } := by
  intro b
  have set : (at1 bs 0 != 0) = decide (b 0 ≠ 0) := by
    rw [bne, beq_eq_decide, decide_not]
    congr 2
    exact propext ⟨congrArg BitVec.toNat, fun h => BitVec.eq_of_toNat_eq h⟩
  have named : (readBelow 24 (at1 bs 1)).isSome = decide (b 1 < 24) := by
    by_cases h : (at1 bs 1).toNat < 24
    · rw [readBelow, dif_pos h]; exact (decide_eq_true h).symm
    · rw [readBelow, dif_neg h]; exact (decide_eq_false h).symm
  simp only [NoteEntry.ofBytes, set, named, readBelow_getD, readCurve_eq, toInt_byte_eq_ite, Bool.decide_and]
  rfl

theorem curveOfBytes_eq (bs : List Byte) :
    curveOfBytes bs = clampNat 0 2047 (256 * (bs.getD 0 0).toNat + (bs.getD 1 0).toNat) := by
  rw [curveOfBytes, at2_toNat, min_eq_clampNat]

theorem ArticulationItem.ofBytes_eq (bs : List Byte) :
    let b (i : Nat) : Nat := (bs.getD i 0).toNat
    ArticulationItem.ofBytes bs =
      { curve := if b 0 = 255 then none else if h : b 0 < 8 then some ⟨b 0, h⟩ else some 7
        offset := clampInt (-16) 15 (if 2 * b 1 < 256 then b 1 else (b 1 : Int) - (256 : Nat)) } := by
  intro b
  have curve : (if at1 bs 0 = 0xFF then none else some (readCurve (at1 bs 0))) =
      if b 0 = 255 then none else if h : b 0 < 8 then some ⟨b 0, h⟩ else some 7 := by
    refine if_congr (at1_eq_iff bs 0) rfl ?_
    rw [readCurve_eq]
    show some (if h : b 0 < 8 then (⟨b 0, h⟩ : Fin 8) else 7) = _
    split <;> rfl
  simp only [ArticulationItem.ofBytes, curve, toInt_byte_eq_ite]
  rfl

end Sys2Proof.Machine
end

section
/-! SUPPORT. What a write stores and what it does. -/
namespace Sys2Proof.Machine

variable {s : State}

theorem setIfInBounds_fin {α : Type} {n : Nat} (v : Vector α n) (i : Fin n) (a : α) :
    v.setIfInBounds i.val a = v.set i.val a := by
  refine Vector.ext fun j hj => ?_
  rw [Vector.getElem_setIfInBounds, Vector.getElem_set]

theorem writeItem_striker (n : Fin 24) (bs : List Byte) (s : State) : s.writeItem .striker n.val bs =
    (s.onTbs fun t => { t with strikers := t.strikers.set n (StrikerRecord.ofBytes bs) }).setChannel n
      ((s.channel n).rewritten (StrikerRecord.ofBytes bs)) := dif_pos n.isLt

theorem writeItem_damper (d : Fin 4) (bs : List Byte) (s : State) : s.writeItem .damper d.val bs =
    (s.onTbs fun t => { t with dampers := t.dampers.set d (DamperRecord.ofBytes bs) }).setDamper d {} := dif_pos d.isLt

/-- The load bank is the one the selector does not name. -/
theorem onLoadTables_eq (change : Bank → Bank) (s : State) :
    (s.onTbs fun t => t.setLoadTables (change t.loadTables)) =
      { s with
        tbs :=
          (match s.tbs.playBank with
           | .a => { s.tbs with bankB := change s.tbs.bankB }
           | .b => { s.tbs with bankA := change s.tbs.bankA }) } := by
  simp only [State.onTbs, Tbs.setLoadTables, Tbs.loadTables]
  cases s.tbs.playBank <;> rfl

/-- What a node record written does before the supply is judged (R99, R117). -/
def State.nodeStored (r : NodeRecord) (s : State) : State :=
  { s with
    tbs := { s.tbs with node := r }
    rot := { s.rot with position := s.rot.position % r.stepsPerRev }
    pdu := if r.chainEnd = true then { nextProbe := s.pdu.nextProbe } else s.pdu }

/-- The same with DOWNSTREAM_LOST ended where the node becomes the chain's end (R117). -/
def State.nodeTold (r : NodeRecord) (s : State) : State :=
  if r.chainEnd = true ∧ s.pdu.downstreamLost = true then (s.nodeStored r).reportEnd .downstreamLost
  else s.nodeStored r

theorem writeNode_eq (r : NodeRecord) (s : State) :
    s.writeNode r = (s.nodeTold r).evaluateSupply.takeSupplyFilter := by
  have told : (let stored := (s.onTbs fun t => { t with node := r }).onRot fun x =>
      { x with position := x.position % r.stepsPerRev }
      if r.chainEnd = true then stored.becomeChainEnd else stored) = s.nodeTold r := by
    unfold State.nodeTold State.nodeStored State.becomeChainEnd
    cases r.chainEnd with
    | false => rfl
    | true => cases lost : s.pdu.downstreamLost <;> simp [State.onTbs, State.onRot, State.onPdu, lost]
  exact congrArg (fun x => x.evaluateSupply.takeSupplyFilter) told

theorem nodeTold_frame (r : NodeRecord) (s : State) : (s.nodeTold r).node = r ∧ (s.nodeTold r).sup = s.sup ∧
    (s.nodeTold r).localTime = s.localTime ∧ (s.nodeTold r).resetting = s.resetting := by
  unfold State.nodeTold
  split
  · simp [State.node, State.nodeStored]
  · exact ⟨rfl, rfl, rfl, rfl⟩

theorem afterWrite_config {t : TableId} (h : t = .striker ∨ t = .damper ∨ t = .node ∨ t = .supervision) (s : State) :
    s.afterWrite t = if s.mdc.mode = .idle then s.enterConfig else s := by
  refine if_neg fun banked => ?_
  rcases h with rfl | rfl | rfl | rfl <;> exact Bool.false_ne_true banked

theorem afterWrite_banked {t : TableId} (h : t = .note ∨ t = .curve ∨ t = .articulation) (s : State) :
    s.afterWrite t = s.onTbs Tbs.cancelSwap := if_pos ((TableId.banked_iff t).2 h)

/-- Settles O24: the items by the `ofBytes_eq` lemmas, the writes by an equation per table. -/
theorem writesTakeEffectAtTheWrite : Obligations.WritesTakeEffectAtTheWrite := by
  refine ⟨fun bs => ⟨StrikerRecord.ofBytes_eq bs, DamperRecord.ofBytes_eq bs, NodeRecord.ofBytes_eq bs,
      SupervisionItem.ofBytes_eq bs, NoteEntry.ofBytes_eq bs, curveOfBytes_eq bs, ArticulationItem.ofBytes_eq bs⟩,
    fun s bs => ⟨fun t k i => rfl, fun t i => rfl, fun n => writeItem_striker n bs s, fun d => writeItem_damper d bs s,
      ?_, fun i => ?_, ?_, fun t config => ⟨fun idle => ?_, fun other => ?_⟩, fun t banked => ⟨fun pending => ?_,
      fun none => ?_⟩⟩⟩
  · intro r written told band candidate awake
    obtain ⟨node, sup, time, reset⟩ := nodeTold_frame r s
    have judged : (s.nodeTold r).evaluateSupply = { told with sup := { s.sup with candidate := candidate } } := by
      rw [evaluateSupply_eq, show told = s.nodeTold r from rfl]
      simp only [State.indicated, node, sup, time]
      rfl
    have still : State.Awake { told with sup := { s.sup with candidate := candidate } } := reset.trans awake
    rw [show s.writeItem .node 0 bs = s.writeNode r from rfl, writeNode_eq, judged]
    exact running_awake still _
  · simp only [State.writeItem, setIfInBounds_fin]
    rfl
  · intro loaded
    refine ⟨fun i => ?_, fun i => ?_, fun i => ?_⟩
    · simp only [State.writeItem, setIfInBounds_fin]
      exact onLoadTables_eq (fun b => { b with notes := b.notes.set i (NoteEntry.ofBytes bs) }) s
    · simp only [State.writeItem, setIfInBounds_fin]
      exact onLoadTables_eq (fun b => { b with curves := b.curves.set i (curveOfBytes bs) }) s
    · simp only [State.writeItem, setIfInBounds_fin]
      exact onLoadTables_eq (fun b => { b with articulations := b.articulations.set i (ArticulationItem.ofBytes bs) }) s
  · rw [afterWrite_config config, if_pos idle]
    rfl
  · rw [afterWrite_config config, if_neg other]
  · rw [afterWrite_banked banked, State.onTbs, Tbs.cancelSwap, if_pos (Option.isSome_iff_ne_none.2 pending)]
  · rw [afterWrite_banked banked, State.onTbs, Tbs.cancelSwap, none]
    rfl

end Sys2Proof.Machine
end

section
/-! SUPPORT. The slew grain: what is fixed at the grain skipped (R43, R66, R101). -/
namespace Sys2Proof.Machine

variable {s : State}

theorem State.LeftOf.sublist {es : List Entry} (h : s.LeftOf es) : s.sch.entries.Sublist es := by
  rcases h with h | h
  · rw [h]
  · rw [h]; exact List.nil_sublist es

theorem dueLoop_sublist (k : Nat) (s : State) : (s.dueLoop k).sch.entries.Sublist s.sch.entries := by
  induction k generalizing s with
  | zero => exact List.Sublist.refl _
  | succ k ih =>
    unfold State.dueLoop
    split
    · exact List.Sublist.refl _
    · rename_i x rest entries
      split
      · have left := (handOver_left x (s.onSch fun q => { q with entries := rest })).sublist
        rw [entries]
        exact (ih _).trans (left.trans (List.sublist_cons_self x rest))
      · exact List.Sublist.refl _

/-- After a DUE no entry that is left is due. -/
theorem dueLoop_head_after {k : Nat} (bound : s.sch.entries.length ≤ k) : (s.dueLoop k).headReached = false := by
  induction k generalizing s with
  | zero => rw [State.dueLoop, State.headReached, List.length_eq_zero_iff.1 (Nat.le_zero.1 bound)]
  | succ k ih =>
    unfold State.dueLoop
    split
    · rename_i empty
      rw [State.headReached, empty]
    · rename_i x rest entries
      split
      · have left := (handOver_left x (s.onSch fun q => { q with entries := rest })).length_le
        rw [entries, List.length_cons] at bound
        exact ih (left.trans (Nat.le_of_succ_le_succ bound))
      · rename_i later
        rw [State.headReached, entries]
        exact Bool.eq_false_iff.2 later

/-- An event of the show clock adds no entries. -/
theorem take_sublist (e : ShowEvent) (s : State) : (s.take e).sch.entries.Sublist s.sch.entries := by
  have same {t : State} (h : t.sch = s.sch) : t.sch.entries.Sublist s.sch.entries := by rw [h]
  cases e with
  | due => exact dueLoop_sublist _ s
  | impactWindowEnd n => exact (takeWindowEnd_left n s).sublist
  | travelEnd d => exact (takeTravelEnd_entries d s).symm ▸ List.Sublist.refl _
  | driveEnd n | recoveryEnd n | busyUntilLapse n => exact same (by simp [State.take])
  | chokeHoldExpiry d => exact same (by simp [State.take])
  | risingEdge | fallingEdge | align | swap => exact same (by simp [State.take])

theorem settle_sublist (k : Nat) (s : State) : (s.settle k).sch.entries.Sublist s.sch.entries := by
  induction k generalizing s with
  | zero =>
    obtain ⟨-, sch, -⟩ := endDrives_frame s.takeDue
    rw [State.settle, sch]
    exact dueLoop_sublist _ s
  | succ k ih =>
    unfold State.settle
    split
    · exact List.Sublist.refl _
    · rename_i e _
      exact (ih _).trans (take_sublist e s.chosen)

/-- A grain settled leaves no entry due, whatever its events did. -/
theorem settle_head_after (k : Nat) (s : State) : (s.settle k).headReached = false := by
  induction k generalizing s with
  | zero =>
    have due : s.takeDue.headReached = false := dueLoop_head_after le_rfl
    obtain ⟨scu, sch, -⟩ := endDrives_frame s.takeDue
    rw [State.headReached] at due ⊢
    rw [State.settle, sch, State.now, scu]
    exact due
  | succ k ih =>
    unfold State.settle
    split
    · rename_i none
      exact headReached_of_fallenShow (pick_none.1 none)
    · exact ih _

theorem settle_of_nothing (h : s.fallenShow = []) (k : Nat) : s.settle (k + 1) = s := by
  unfold State.settle
  rw [pick_none.2 h]

/-- A state whose clock alone is moved one grain further than a settled one. -/
def State.grainOn (s : State) : State := s.onScu fun c => { c with now := c.now + 1 }

/-- Settles O46: a slew grain runs the clock through the grain it skips. -/
theorem slewGrainAdvancesTwoOrNone : Obligations.SlewGrainAdvancesTwoOrNone := by
  intro s awake past ready
  have run : exec .slewGrain s = .next s.takeSlewGrain := running_awake awake _
  have ready_iff : (s.slewNext && s.fallenEvents.isEmpty) = true ↔ ready := by simp [ready]
  have taken (h : ready) (forward : 0 < s.scu.slew) :
      s.takeSlewGrain = ((past (s.scu.slew - 1) (s.scu.now + 1)).settle settleBound).grainOn := by
    simp only [State.takeSlewGrain, if_pos (ready_iff.2 h), if_pos forward, Scu.slewStep, State.onScu, State.grainOn]
    rfl
  refine ⟨fun h => ?_, fun h back => ?_, fun h forward quiet => ?_, fun h forward => ?_⟩
  · rw [run, State.takeSlewGrain, if_neg (mt ready_iff.1 h)]
  · have behind : ¬0 < s.scu.slew := by omega
    rw [run, State.takeSlewGrain, if_pos (ready_iff.2 h)]
    simp only [if_neg behind, Scu.slewStep, State.onScu]
    rfl
  · rw [run, taken h forward, show settleBound = 511 + 1 from rfl, settle_of_nothing quiet]
    have two : s.scu.now + 1 + 1 = s.scu.now + 2 := by bv_omega
    simp only [State.grainOn, State.onScu, past, two]
  · let skipped := past (s.scu.slew - 1) (s.scu.now + 1)
    obtain ⟨clock, time, reset, queue⟩ := settle_frame settleBound skipped
    have now : (skipped.settle settleBound).now = s.scu.now + 1 := congrArg Scu.now clock
    refine ⟨(skipped.settle settleBound).grainOn, by rw [run, taken h forward], ?_, congrArg Scu.slew clock, time,
      ⟨reset, queue⟩, fun x mem => (settle_sublist settleBound skipped).subset mem, fun x rest entries => ?_,
      fun n d driving => ?_⟩
    · show (skipped.settle settleBound).now + 1 = _
      rw [now]
      bv_omega
    · have after := settle_head_after settleBound skipped
      rw [State.headReached, show (skipped.settle settleBound).sch.entries = x :: rest from entries, now] at after
      exact Int.not_le.1 (mt (reached_iff _ _).2 (Bool.eq_false_iff.1 after))
    · have after := settle_driveEndReached settleBound skipped n
      rw [State.driveEndReached, show ((skipped.settle settleBound).channel n).drive = some d from driving,
        now] at after
      exact Int.not_le.1 (mt (reached_iff _ _).2 (Bool.eq_false_iff.1 after))

end Sys2Proof.Machine
end

section
/-! SUPPORT. MARKs: what every MARK does, and the clock's answer in each sync state (R102 to R107). -/
namespace Sys2Proof.Machine

variable {s : State}

/-! ### Reports beside a MARK -/

/-- A stored report adds its pair to the list, if anything. -/
theorem storeReport_pairs (p : FaultPair) (s : State) :
    (s.storeReport p).svu.faults.map FaultRecord.pair = s.svu.faults.map FaultRecord.pair ∨
      (s.storeReport p).svu.faults.map FaultRecord.pair = s.svu.faults.map FaultRecord.pair ++ [p] := by
  have updated (r : FaultRecord) : (r.again s.now).pair = r.pair := rfl
  unfold State.storeReport
  split
  · exact .inl (map_pair_update p _ updated _)
  · split
    · refine .inr ?_
      have stored : (s.appendRecord (s.newRecord p)).svu.faults = s.svu.faults ++ [s.newRecord p] := by
        rw [State.appendRecord, show ∀ t : State, ∀ r, (t.sendNotice r).svu = t.svu from fun t r => by simp,
          refreshLamp_eq]
        rfl
      rw [stored, List.map_append]
      rfl
    · exact .inl rfl

/-- A report's pair is listed afterwards, if it was before or the list had room. -/
theorem report_listed {p : FaultPair} (h : (∃ r ∈ s.svu.faults, r.pair = p) ∨ s.svu.faults.length < 8) :
    ∃ r ∈ (s.report p).svu.faults, r.pair = p := by
  by_cases listed : ∃ r ∈ s.svu.faults, r.pair = p
  · obtain ⟨r, mem, same⟩ := listed
    obtain ⟨faults, -⟩ := react_records p (s.storeReport p)
    have stored : (s.storeReport p).svu.faults =
        s.svu.faults.map fun r => if r.pair = p then r.again s.now else r := by
      rw [State.storeReport, if_pos ((has_iff _ _).2 ⟨r, mem, same⟩)]
      rfl
    rw [State.report, faults, stored]
    exact ⟨_, List.mem_map_of_mem mem, by rw [if_pos same]; exact same⟩
  · have new : ∀ r ∈ s.svu.faults, r.pair ≠ p := fun r mem same => listed ⟨r, mem, same⟩
    rw [(report_records_new new (h.resolve_left listed)).1]
    exact ⟨s.newRecord p, by simp, rfl⟩

/-! ### What goes before and after the clock (R116, R124) -/

/-- The state in which the show clock takes a MARK: the frame counted and the position taken. -/
def State.placed (hop : Byte) (s : State) : State := (s.countGood .upstream).takePosition hop

theorem takePosition_tbs (hop : Byte) (s : State) : (s.takePosition hop).tbs = s.tbs := by
  unfold State.takePosition
  split
  · simp only []
    split <;> simp
  · simp only []
    split
    · rfl
    · rw [report_of_warn rfl]; simp

@[simp] theorem placed_frame (hop : Byte) (s : State) : (s.placed hop).scu = s.scu ∧ (s.placed hop).tbs = s.tbs ∧
    (s.placed hop).pdu = s.pdu ∧ (s.placed hop).acu = s.acu ∧ (s.placed hop).sup = s.sup ∧
    (s.placed hop).localTime = s.localTime ∧ (s.placed hop).resetting = s.resetting ∧
    (s.placed hop).pending = s.pending := by
  simp [State.placed, takePosition_tbs]

/-- Taking the position lists CHAIN_TOO_LONG at most. -/
theorem placed_pairs (hop : Byte) (s : State) : ∃ l : List FaultPair, l.length ≤ 1 ∧
    (s.placed hop).svu.faults.map FaultRecord.pair = s.svu.faults.map FaultRecord.pair ++ l := by
  have counted := countGood_pairs .upstream s
  unfold State.placed State.takePosition
  generalize s.countGood .upstream = t at counted
  have none : t.svu.faults.map FaultRecord.pair = s.svu.faults.map FaultRecord.pair ++ [] := by
    rw [counted, List.append_nil]
  split
  · simp only []
    split
    · refine ⟨[], Nat.zero_le 1, Eq.trans ?_ none⟩
      exact map_pair_update _ (fun r => { r with active := false }) (fun _ => rfl) _
    · exact ⟨[], Nat.zero_le 1, none⟩
  · simp only []
    split
    · exact ⟨[], Nat.zero_le 1, none⟩
    · rw [report_of_warn rfl]
      rcases storeReport_pairs .chainTooLong (t.onLiu fun l => { l with position := 255, chainTooLong := true })
        with same | more
      · exact ⟨[], Nat.zero_le 1, same.trans none⟩
      · exact ⟨[.chainTooLong], le_rfl, by rw [more, ← counted]; rfl⟩

theorem handRestart_faults (s : State) : s.handRestart.svu.faults = s.svu.faults := by
  rw [handRestart_eq]
  rfl

theorem discardCopy_faults (i : ForwardItem) (s : State) : (s.discardCopy i).svu.faults = s.svu.faults := by
  unfold State.discardCopy
  simp only []
  split
  · rfl
  · rfl
  · exact handRestart_faults _
  · rfl

theorem startForward_faults (n : Nat) (s : State) : (s.startForward n).svu.faults = s.svu.faults := by
  induction n generalizing s with
  | zero => rfl
  | succ n ih =>
    unfold State.startForward
    split
    · rfl
    · split
      · rfl
      · simp only []
        split
        · rw [ih, discardCopy_faults]
          rfl
        · rfl

theorem forwardMark_faults (m : WaitingMark) (s : State) : (s.forwardMark m).svu.faults = s.svu.faults := by
  unfold State.forwardMark State.kickForward
  split
  · rw [startForward_faults]
    rfl
  · split
    · exact discardCopy_faults _ _
    · rw [startForward_faults, discardCopy_faults]
      rfl

/-- A MARK's answer, up to the probe count and the copy that goes on. -/
def State.disciplined (t : ShowTime) (hop : Byte) (d : BitVec 24) (q : Byte) (s : State) : State :=
  (s.placed hop).disciplineClock t d.toNat (readQuality q)

theorem exec_mark (awake : s.Awake) (t : ShowTime) (hop : Byte) (d : BitVec 24) (q : Byte) :
    exec (.mark t hop d q) s = .next (s.takeMark t hop d q) := running_awake awake _

theorem takeMark_frame (t : ShowTime) (hop : Byte) (d : BitVec 24) (q : Byte) (s : State) :
    (s.takeMark t hop d q).scu = (s.disciplined t hop d q).scu ∧
      (s.takeMark t hop d q).tbs = (s.disciplined t hop d q).tbs ∧
      (s.takeMark t hop d q).svu.faults = (s.disciplined t hop d q).svu.faults := by
  simp [State.takeMark, State.disciplined, State.placed, forwardMark_faults]

/-! ### The clock (R102 to R107) -/

/-- The Clock Unit with a MARK's receipt noted (R102). -/
def State.noted (d : BitVec 24) (q : Byte) (s : State) : Scu :=
  { s.scu with lastPathDelay := d.toNat, qualityIn := readQuality q, lastMark := some s.localTime }

/-- The show time a MARK gives (R102). -/
def State.target (t : ShowTime) (d : BitVec 24) (s : State) : ShowTime :=
  if s.node.compensation then t + BitVec.ofNat 32 ((d.toNat + 8) / 16) else t

/-- The state whose clock answers a MARK: the position taken and the receipt noted. -/
def State.seen (hop : Byte) (d : BitVec 24) (q : Byte) (s : State) : State :=
  { s.placed hop with scu := s.noted d q }

@[simp] theorem seen_frame (hop : Byte) (d : BitVec 24) (q : Byte) (s : State) : (s.seen hop d q).scu = s.noted d q ∧
    (s.seen hop d q).tbs = s.tbs ∧ (s.seen hop d q).svu = (s.placed hop).svu ∧
    (s.seen hop d q).resetting = s.resetting := by
  simp [State.seen]

theorem disciplined_eq (t : ShowTime) (hop : Byte) (d : BitVec 24) (q : Byte) (s : State) :
    s.disciplined t hop d q =
      match s.scu.sync with
      | .unlocked => (s.seen hop d q).markUnlocked (signedDiff (s.target t d) s.now)
      | .acquiring => (s.seen hop d q).markAcquiring (signedDiff (s.target t d) s.now) (readQuality q)
      | .locked => (s.seen hop d q).markLocked (signedDiff (s.target t d) s.now) s.markIsEarly
      | .holdover => (s.seen hop d q).markHoldover (signedDiff (s.target t d) s.now) := by
  obtain ⟨clock, tables, -, -, -, time, -⟩ := placed_frame hop s
  have target : (s.placed hop).markTarget t d.toNat = s.target t d := by
    simp only [State.markTarget, State.node, tables]
    rfl
  have now : (s.placed hop).now = s.now := congrArg Scu.now clock
  have early : (s.placed hop).markIsEarly = s.markIsEarly := by
    simp only [State.markIsEarly, State.node, clock, tables, time]
  have noted : ((s.placed hop).onScu fun c =>
      { c with lastPathDelay := d.toNat, qualityIn := readQuality q, lastMark := some (s.placed hop).localTime }) =
      s.seen hop d q := by
    simp only [State.onScu, State.seen, State.noted, clock, time]
  cases sync : s.scu.sync <;>
    simp only [State.disciplined, State.disciplineClock, noted, target, now, early, clock, sync]

theorem shiftBy_signedDiff (a b : ShowTime) : shiftBy (signedDiff a b) b = a := by
  rw [shiftBy, signedDiff, BitVec.ofInt_toInt]
  bv_omega

theorem moreConfident_eq (c : Nat) : moreConfident c = if c + 1 < 8 then c + 1 else 8 := by
  unfold moreConfident
  split <;> omega

theorem natAbs_le_iff (e : Int) (k : Nat) : e.natAbs ≤ k ↔ -(k : Int) ≤ e ∧ e ≤ k := by omega

theorem readQuality_ne_none_iff (q : Byte) : readQuality q ≠ .none ↔ q = 1 ∨ q = 2 := by
  unfold readQuality
  by_cases coarse : q = 1
  · simp [coarse]
  · by_cases fine : q = 2
    · simp [fine]
    · rw [if_neg coarse, if_neg fine]
      exact ⟨fun h => absurd rfl h, fun h => (h.elim coarse fine).elim⟩

/-- Settles O18: the MARK in UNLOCKED and in ACQUIRING, by what each leaves of the Clock Unit. -/
theorem markStepsAFreeClock : Obligations.MarkStepsAFreeClock := by
  refine ⟨fun q => rfl, fun s t h d q awake => ?_⟩
  intro target e seen more
  have confident : moreConfident s.scu.confidence = more := moreConfident_eq _
  have answer {c : Scu} (scu : (s.disciplined t h d q).scu = c) : ∃ u, exec (.mark t h d q) s = .next u ∧ u.scu = c :=
    ⟨s.takeMark t h d q, exec_mark awake t h d q, (takeMark_frame t h d q s).1.trans scu⟩
  have stepped : Scu.stepped e (s.noted d q) = { seen with now := target, slew := 0 } := by
    rw [Scu.stepped, show shiftBy e (s.noted d q).now = target from shiftBy_signedDiff _ _]
    rfl
  have node : (s.seen h d q).node = s.node := by simp [State.node]
  refine ⟨fun unlocked => answer ?_, fun acquiring near => answer ?_, fun acquiring far => answer ?_⟩
  all_goals rw [disciplined_eq]
  · rw [unlocked]
    show (State.markUnlocked e _).scu = _
    rw [State.markUnlocked, State.enterSync_scu, State.onScu_scu, State.stepClock_scu, (seen_frame h d q s).1, stepped]
  · rw [acquiring]
    show (State.markAcquiring e _ _).scu = _
    have within : e.natAbs ≤ 2 := (natAbs_le_iff e 2).2 near
    have counted : ((s.seen h d q).onScu fun c => { c with confidence := moreConfident c.confidence }).scu =
        { seen with confidence := more } := by
      simp only [State.onScu_scu, seen_frame]
      rw [← confident]
      rfl
    have locks : (more = 8 ∧ (s.node.compensation = false ∨ readQuality q ≠ .none)) ↔
        (more = 8 ∧ (s.node.compensation = false ∨ q = 1 ∨ q = 2)) := by rw [readQuality_ne_none_iff]
    simp only [State.markAcquiring, if_pos within, counted, node, locks]
    split
    · rw [State.enterSync_scu, counted]
    · rw [counted]
      exact congrArg (fun x => ({ seen with confidence := more, sync := x } : Scu)) acquiring
  · rw [acquiring]
    show (State.markAcquiring e _ _).scu = _
    have beyond : ¬e.natAbs ≤ 2 := fun within => by
      have near := (natAbs_le_iff e 2).1 within
      omega
    have counted : (((s.seen h d q).stepClock e).onScu fun c => { c with confidence := 0 }).scu =
        { seen with now := target, confidence := 0, slew := 0 } := by
      simp only [State.onScu_scu, State.stepClock_scu, seen_frame, stepped]
    have unsure : ¬(0 = 8 ∧ ((s.seen h d q).node.compensation = false ∨ readQuality q ≠ .none)) := by simp
    simp only [State.markAcquiring, if_neg beyond, counted, if_neg unsure]
    exact congrArg (fun x => ({ seen with now := target, confidence := 0, slew := 0, sync := x } : Scu)) acquiring

theorem enterSync_notLocked_tbs {x : SyncState} (h : x.notLocked = true) (s : State) :
    (s.enterSync x).tbs = if s.tbs.pendingSwap = none then s.tbs else s.tbs.swap := by
  unfold State.enterSync
  simp only [h, true_and]
  cases pending : s.tbs.pendingSwap <;> simp

theorem enterSync_locked (s : State) : s.enterSync .locked = { s with scu := { s.scu with sync := .locked } } := by
  simp only [State.enterSync, SyncState.notLocked, Bool.false_eq_true, false_and, if_false]
  rfl

theorem markIsEarly_iff (s : State) : s.markIsEarly = true ↔
    ∃ l, s.scu.lastMark = some l ∧ s.localTime - l < 16 * (s.node.markPeriod / 2) := by
  simp only [State.markIsEarly, Option.any_eq_true, decide_eq_true_eq]
  rfl

/-- A violation by its outcome (R105). -/
theorem markLocked_violation {e : Int} {early : Bool} (h : 64 < e.natAbs ∨ early = true) (s : State) :
    (s.markLocked e early).scu =
        (if s.scu.confidence ≤ 2 then { s.scu with confidence := 0, slew := 0, sync := .acquiring }
         else { s.scu with confidence := s.scu.confidence - 2 }) ∧
      (s.markLocked e early).tbs =
        (if s.scu.confidence ≤ 2 ∧ s.tbs.pendingSwap ≠ none then s.tbs.swap else s.tbs) ∧
      (s.markLocked e early).svu =
        ((s.onScu fun c => { c with confidence := c.confidence - 2 }).report .clockWindow).svu := by
  have tables : ((s.onScu fun c => { c with confidence := c.confidence - 2 }).report .clockWindow).tbs = s.tbs := by
    rw [report_of_warn rfl]; simp
  have clock : ((s.onScu fun c => { c with confidence := c.confidence - 2 }).report .clockWindow).scu =
      { s.scu with confidence := s.scu.confidence - 2 } := by simp
  simp only [State.markLocked, if_pos h]
  by_cases low : s.scu.confidence ≤ 2
  · have zero : s.scu.confidence - 2 = 0 := by omega
    rw [if_pos zero, if_pos low, State.enterSync_scu, enterSync_notLocked_tbs rfl, State.onScu_scu, State.onScu_tbs,
      tables, clock, zero]
    refine ⟨rfl, ?_, by simp⟩
    cases pending : s.tbs.pendingSwap <;> simp [low]
  · have some : ¬s.scu.confidence - 2 = 0 := by omega
    rw [if_neg some, if_neg low, tables, clock, if_neg fun both => low both.1]
    exact ⟨rfl, rfl, rfl⟩

/-- Settles O19: the MARK in LOCKED, good or a violation, and in HOLDOVER. -/
theorem markDisciplinesALockedClock : Obligations.MarkDisciplinesALockedClock := by
  intro s t h d q awake target e seen more near early swapped
  have confident : moreConfident s.scu.confidence = more := moreConfident_eq _
  have run : exec (.mark t h d q) s = .next (s.takeMark t h d q) := exec_mark awake t h d q
  obtain ⟨scu, tbs, faults⟩ := takeMark_frame t h d q s
  have stepped : Scu.stepped e (s.noted d q) = { seen with now := target, slew := 0 } := by
    rw [Scu.stepped, show shiftBy e (s.noted d q).now = target from shiftBy_signedDiff _ _]
    rfl
  have near_iff : e.natAbs ≤ 64 ↔ near := natAbs_le_iff e 64
  obtain ⟨clock, tables, list, -⟩ := seen_frame h d q s
  refine ⟨fun locked violation => ?_, fun locked isNear onTime => ?_, fun holdover isNear => ?_,
    fun holdover isFar => ?_⟩
  · have answers : s.disciplined t h d q = (s.seen h d q).markLocked e s.markIsEarly := by
      rw [disciplined_eq, locked]
      rfl
    have violates : 64 < e.natAbs ∨ s.markIsEarly = true := by
      rw [markIsEarly_iff]
      exact violation.imp_left fun far => Nat.not_le.1 (mt near_iff.1 far)
    obtain ⟨scu', tbs', svu'⟩ := markLocked_violation violates (s.seen h d q)
    refine ⟨_, run, ?_, ?_, fun listed => ?_⟩
    · rw [scu, answers, scu', clock]
      rfl
    · rw [tbs, answers, tbs', clock, tables, Tbs.swap_eq]
      rfl
    · rw [faults, answers, svu']
      refine report_listed ?_
      show (∃ r ∈ (s.seen h d q).svu.faults, r.pair = .clockWindow) ∨ (s.seen h d q).svu.faults.length < 8
      obtain ⟨more, one, pairs⟩ := placed_pairs h s
      rw [list]
      rcases listed with ⟨r, mem, same⟩ | room
      · refine .inl ?_
        have listed : FaultPair.clockWindow ∈ (s.placed h).svu.faults.map FaultRecord.pair := by
          rw [pairs]
          exact List.mem_append_left _ (same ▸ List.mem_map_of_mem mem)
        exact List.mem_map.1 listed
      · refine .inr ?_
        have length := congrArg List.length pairs
        rw [List.length_append, List.length_map, List.length_map] at length
        omega
  · have answers : s.disciplined t h d q = (s.seen h d q).markLocked e s.markIsEarly := by
      rw [disciplined_eq, locked]
      rfl
    have good : ¬(64 < e.natAbs ∨ s.markIsEarly = true) := by
      rw [markIsEarly_iff]
      exact not_or.2 ⟨Nat.not_lt.2 (near_iff.2 isNear), onTime⟩
    have still : e.natAbs ≤ 2 ↔ -2 ≤ e ∧ e ≤ 2 := natAbs_le_iff e 2
    simp only [State.markLocked, if_neg good] at answers
    refine ⟨_, run, ?_, ?_⟩
    · rw [scu, answers, State.onScu_scu, clock]
      simp only [still, ← confident]
      rfl
    · rw [tbs, answers, State.onScu_tbs, tables]
  · have answers : s.disciplined t h d q = (s.seen h d q).markHoldover e := by
      rw [disciplined_eq, holdover]
      rfl
    rw [State.markHoldover, if_pos (near_iff.2 isNear), enterSync_locked] at answers
    refine ⟨_, run, ?_, ?_⟩
    · rw [scu, answers, ← confident]
      simp only [State.onScu_scu, clock]
      rfl
    · rw [tbs, answers]
      exact tables
  · have answers : s.disciplined t h d q = (s.seen h d q).markHoldover e := by
      rw [disciplined_eq, holdover]
      rfl
    rw [State.markHoldover, if_neg (mt near_iff.1 isFar)] at answers
    refine ⟨_, run, ?_⟩
    rw [scu, answers, State.onScu_scu, State.stepClock_scu, State.enterSync_scu, State.onScu_scu, clock]
    exact congrArg (fun c : Scu =>
      ({ c with sync := .acquiring, confidence := 0, slew := 0, holdoverStart := none } : Scu)) stepped

end Sys2Proof.Machine
end

section
/-! SUPPORT. What no command of the show clock touches: the position, the forward queue and the node's record. -/
namespace Sys2Proof.Machine

variable {s t : State}

/-- What the downstream side and the node's record are; neither reports nor the show clock change them. -/
def State.view (s : State) : Byte × Bool × List ForwardItem × Option Sending × NodeRecord :=
  (s.liu.position, s.liu.chainTooLong, s.liu.forward, s.liu.sendingDown, s.tbs.node)

theorem view_of_same (liu : t.liu = s.liu) (node : t.tbs.node = s.tbs.node) : t.view = s.view := by
  rw [State.view, State.view, liu, node]

theorem view_of_tables (liu : t.liu = s.liu) (tbs : t.tbs = s.tbs) : t.view = s.view := view_of_same liu (by rw [tbs])

@[simp] theorem onLiu_answer_view (f : List Frame) (s : State) :
    (s.onLiu fun l => { l with answer := f }).view = s.view := rfl

@[simp] theorem startReturn_view (s : State) : s.startReturn.view = s.view := by
  simp only [State.startReturn, State.onLiu, State.view]
  split <;> rfl

@[simp] theorem queueAnswer_view (f : Frame) (g : LinkCounters → LinkCounters) (s : State) :
    (s.queueAnswer f g).view = s.view := by
  unfold State.queueAnswer State.kickReturn
  split
  · split
    · exact startReturn_view _
    · rfl
  · rfl

@[simp] theorem refreshLamp_view (s : State) : s.refreshLamp.view = s.view :=
  view_of_tables (by simp) (by simp)

@[simp] theorem storeReport_view (p : FaultPair) (s : State) : (s.storeReport p).view = s.view := by
  unfold State.storeReport
  split
  · rfl
  · split
    · unfold State.appendRecord State.sendNotice
      split
      · rw [queueAnswer_view, refreshLamp_view]; rfl
      · rw [refreshLamp_view]; rfl
    · rfl

@[simp] theorem requestSafe_view (s : State) : s.requestSafe.view = s.view := by
  unfold State.requestSafe
  split
  · rw [State.enterSafe, State.setMode, refreshLamp_view]
    exact view_of_same (by simp) (by simp)
  · rfl

@[simp] theorem report_view (p : FaultPair) (s : State) : (s.report p).view = s.view := by
  unfold State.report State.react
  split
  · exact storeReport_view p s
  · exact (view_of_tables (by simp) (by simp)).trans (storeReport_view p s)
  · exact (view_of_tables (by simp) (by simp)).trans (storeReport_view p s)
  · rw [requestSafe_view, storeReport_view]

@[simp] theorem closeAsMiss_view (n : Fin 24) (s : State) : (s.closeAsMiss n).view = s.view := by
  simp only [State.closeAsMiss]
  split
  · rw [report_view]; rfl
  · rfl

@[simp] theorem takeWindowEnd_view (n : Fin 24) (s : State) : (s.takeWindowEnd n).view = s.view := by
  unfold State.takeWindowEnd
  split
  · exact closeAsMiss_view n s
  · rfl

theorem startDrive_view (n : Fin 24) (a e : ShowTime) (w : Nat) (s : State) : (s.startDrive n a e w).view = s.view := by
  have opened (sense : Bool) (t : State) : (t.openWindow n sense e).view = t.view := by
    unfold State.openWindow
    split <;> rfl
  rw [startDrive_eq, takeWindowEnd_view, opened]
  split
  · rw [closeAsMiss_view]; rfl
  · rfl

theorem handStrike_view (n : Fin 24) (a e : ShowTime) (w : Nat) (s : State) : (s.handStrike n a e w).view = s.view := by
  have ready : ((s.takeDriveEnd n).takeRecoveryEnd n).view = s.view := view_of_tables (by simp) (by simp)
  simp only [State.handStrike]
  split
  · exact ready
  · rw [startDrive_view]
    exact ready

@[simp] theorem handOver_view (x : Entry) (s : State) : (s.handOver x).view = s.view := by
  simp only [State.handOver]
  split
  · split
    · rfl
    · exact handStrike_view _ _ _ _ s
  · split
    · rfl
    · exact view_of_tables (by simp) (by simp)

theorem dueLoop_view (k : Nat) (s : State) : (s.dueLoop k).view = s.view := by
  induction k generalizing s with
  | zero => rfl
  | succ k ih =>
    unfold State.dueLoop
    split
    · rfl
    · split
      · rw [ih, handOver_view]; rfl
      · rfl

theorem scheduleStep_view (k : Int) (s : State) : (s.scheduleStep k).view = s.view := by
  unfold State.scheduleStep
  split
  · exact view_of_tables (by simp) (by simp)
  · split
    · exact dueLoop_view _ s
    · rfl

theorem takeSwapTime_view (s : State) : s.takeSwapTime.view = s.view := by
  unfold State.takeSwapTime
  split <;> rfl

@[simp] theorem stepClock_view (k : Int) (s : State) : (s.stepClock k).view = s.view := by
  unfold State.stepClock
  split
  · rfl
  · have closed (t : State) : (allStrikers.foldl (fun s n => s.takeWindowEnd n) t).view = t.view :=
      foldl_keeps State.view _ (fun s n => takeWindowEnd_view n s) _ _
    have aligned (t : State) : t.takeAlign.view = t.view := view_of_tables (by simp) (by simp)
    rw [takeSwapTime_view, aligned, closed, scheduleStep_view]
    exact view_of_tables (by simp) (by simp)

@[simp] theorem enterSync_view (x : SyncState) (s : State) : (s.enterSync x).view = s.view := by
  unfold State.enterSync
  simp only []
  split <;> rfl

@[simp] theorem onScu_view (f : Scu → Scu) (s : State) : (s.onScu f).view = s.view := rfl

theorem disciplineClock_view (t : ShowTime) (d : Nat) (q : Quality) (s : State) :
    (s.disciplineClock t d q).view = s.view := by
  unfold State.disciplineClock State.markUnlocked State.markAcquiring State.markLocked State.markHoldover
  simp only []
  repeat' split
  all_goals simp

/-! ### What a MARK leaves and sends on (R111, R116, R124, R126) -/

theorem countGood_downstream (p : Port) (s : State) : (s.countGood p).liu.forward = s.liu.forward ∧
    (s.countGood p).liu.sendingDown = s.liu.sendingDown ∧ (s.countGood p).liu.chainTooLong = s.liu.chainTooLong := by
  have ended (q : Port) (t : State) : (t.reportEnd (.linkErrors q)).liu = t.liu := by simp
  cases p <;>
  · unfold State.countGood State.leakFell
    simp only []
    split
    · rw [ended]
      exact ⟨rfl, rfl, rfl⟩
    · exact ⟨rfl, rfl, rfl⟩

/-- What the position is after a MARK, and what stands of CHAIN_TOO_LONG (R124). -/
theorem placed_liu (hop : Byte) (s : State) :
    (s.placed hop).liu.position = (if hop.toNat ≤ 253 then hop + 1 else 255) ∧
      (s.placed hop).liu.chainTooLong = !decide (hop.toNat ≤ 253) ∧
      (s.placed hop).liu.forward = s.liu.forward ∧ (s.placed hop).liu.sendingDown = s.liu.sendingDown := by
  obtain ⟨forward, sending, -⟩ := countGood_downstream .upstream s
  unfold State.placed State.takePosition
  by_cases near : hop.toNat ≤ 253
  · rw [if_pos near, if_pos near, decide_eq_true near]
    simp only []
    split
    · rw [show ∀ t : State, (t.reportEnd .chainTooLong).liu = t.liu from fun t => by simp]
      exact ⟨rfl, rfl, forward, sending⟩
    · exact ⟨rfl, rfl, forward, sending⟩
  · rw [if_neg near, if_neg near, decide_eq_false near]
    simp only []
    split
    · exact ⟨rfl, rfl, forward, sending⟩
    · have same := report_view .chainTooLong
        ((s.countGood .upstream).onLiu fun l => { l with position := 255, chainTooLong := true })
      simp only [State.view, Prod.mk.injEq] at same
      obtain ⟨position, long, forward', sending', -⟩ := same
      exact ⟨position, long, forward'.trans forward, sending'.trans sending⟩

theorem disciplined_frame (t : ShowTime) (hop : Byte) (d : BitVec 24) (q : Byte) (s : State) :
    (s.disciplined t hop d q).liu.position = (if hop.toNat ≤ 253 then hop + 1 else 255) ∧
      (s.disciplined t hop d q).liu.chainTooLong = !decide (hop.toNat ≤ 253) ∧
      (s.disciplined t hop d q).liu.forward = s.liu.forward ∧
      (s.disciplined t hop d q).liu.sendingDown = s.liu.sendingDown ∧
      (s.disciplined t hop d q).node = s.node := by
  obtain ⟨position, long, forward, sending⟩ := placed_liu hop s
  have same := disciplineClock_view t d.toNat (readQuality q) (s.placed hop)
  simp only [State.view, Prod.mk.injEq] at same
  obtain ⟨position', long', forward', sending', node⟩ := same
  have tables : (s.placed hop).tbs = s.tbs := by simp
  exact ⟨position'.trans position, long'.trans long, forward'.trans forward, sending'.trans sending,
    node.trans (congrArg Tbs.node tables)⟩

/-- The probe counter's answer to a MARK (R111). -/
def State.probeCounted (s : State) : Pdu :=
  { s.pdu with
    markCount := (s.pdu.markCount + 1) % 64
    probeDue := if s.pdu.markCount = 63 ∧ s.pdu.outstanding = none ∧ s.node.chainEnd = false then .afterMark
      else s.pdu.probeDue }

theorem probeFallsDue_iff (s : State) : s.probeFallsDue = true ↔
    s.pdu.markCount = 63 ∧ s.pdu.outstanding = none ∧ s.node.chainEnd = false := by
  simp [State.probeFallsDue, and_assoc]

theorem forwardedHop_eq {hop : Byte} (h : s.liu.position = if hop.toNat ≤ 253 then hop + 1 else 255) :
    s.forwardedHop = if hop.toNat ≤ 253 then hop + 1 else 254 := by
  rw [State.forwardedHop, h]
  split
  · rename_i near
    rw [if_neg]
    bv_omega
  · rfl

theorem takeMark_eq (t : ShowTime) (hop : Byte) (d : BitVec 24) (q : Byte) (s : State) : s.takeMark t hop d q =
    ({ s.disciplined t hop d q with pdu := s.probeCounted } : State).forwardMark
      { showTime := t, hop := if hop.toNat ≤ 253 then hop + 1 else 254, pathDelay := d.toNat
        quality := readQuality q, receivedAt := s.localTime
        opensProbe := decide (s.pdu.markCount = 63 ∧ s.pdu.outstanding = none ∧ s.node.chainEnd = false) } := by
  obtain ⟨position, -, -, -, node⟩ := disciplined_frame t hop d q s
  have parts : (s.disciplined t hop d q).pdu = s.pdu ∧ (s.disciplined t hop d q).localTime = s.localTime := by
    simp [State.disciplined]
  obtain ⟨probes, time⟩ := parts
  have falls : (s.disciplined t hop d q).probeFallsDue = true ↔
      s.pdu.markCount = 63 ∧ s.pdu.outstanding = none ∧ s.node.chainEnd = false := by
    rw [probeFallsDue_iff, probes, node]
  have counted : (s.disciplined t hop d q).countMark = { s.disciplined t hop d q with pdu := s.probeCounted } := by
    simp only [State.countMark, State.onPdu, State.probeCounted, probes, falls]
  have opens : (s.disciplined t hop d q).probeFallsDue =
      decide (s.pdu.markCount = 63 ∧ s.pdu.outstanding = none ∧ s.node.chainEnd = false) :=
    Bool.eq_iff_iff.2 (falls.trans decide_eq_true_iff.symm)
  rw [← forwardedHop_eq position, ← counted, ← time, ← opens]
  rfl

/-! ### The forward queue's place for a MARK (R126) -/

theorem lastCopy_none {q : List ForwardItem} (h : ∀ i ∈ q, i.isMark = true) : lastCopy q = none := by
  simpa [lastCopy] using h

theorem lastCopy_some {front back : List ForwardItem} {c : ForwardItem} (copy : c.isMark = false)
    (h : ∀ i ∈ back, i.isMark = true) : lastCopy (front ++ c :: back) = some c := by
  have marks : back.reverse.find? (fun i => !i.isMark) = none := by simpa using h
  simp [lastCopy, List.find?_append, marks, copy]

theorem dropLastCopy_eq {front back : List ForwardItem} {c : ForwardItem} (copy : c.isMark = false)
    (h : ∀ i ∈ back, i.isMark = true) : dropLastCopy (front ++ c :: back) = front ++ back := by
  have marks : ∀ i ∈ back.reverse, ¬(!i.isMark) = true := by simpa using h
  simp [dropLastCopy, List.eraseP_append_right _ marks, copy]

theorem forwardMark_room (h : s.liu.forward.length < 4) (m : WaitingMark) :
    s.forwardMark m = (s.onLiu fun l => { l with forward := insertMark m l.forward }).kickForward := if_pos h

theorem forwardMark_full (h : 4 ≤ s.liu.forward.length) (m : WaitingMark) : s.forwardMark m =
    match lastCopy s.liu.forward with
    | none => s.discardCopy (.mark m)
    | some gone =>
      ((s.onLiu fun l => { l with forward := insertMark m (dropLastCopy l.forward) }).discardCopy gone).kickForward :=
  if_neg (Nat.not_lt.2 h)

/-- Settles O21: the state before the copy goes on is `disciplined` with the MARK counted, and the copy takes its
place among the MARKs. -/
theorem markTakesThePositionAndGoesOn : Obligations.MarkTakesThePositionAndGoesOn := by
  refine ⟨fun s t h d q awake => ?_, fun w m awake => ?_⟩
  · intro position dueNow
    obtain ⟨placed, long, forward, sending, -⟩ := disciplined_frame t h d q s
    refine ⟨{ s.disciplined t h d q with pdu := s.probeCounted }, ?_, placed, ?_, forward, sending, rfl, ?_⟩
    · rw [exec_mark awake, takeMark_eq]
    · show (s.disciplined t h d q).liu.chainTooLong = true ↔ _
      rw [long]
      simp
    · have reset : s.resetting = none := awake
      simp [State.disciplined, State.Awake, reset]
  · intro waiting discarding placedIn joined
    have boundary {x : State} (awake : x.Awake) (idle : x.liu.sendingDown = none) :
        exec .downstreamFrameBoundary x = .next x.kickForward := by
      rw [exec_downBoundary awake, takeDownBoundary_idle idle]
    refine ⟨fun room => ⟨fun busy => ?_, fun idle => ?_⟩, fun full => ⟨fun marks => ?_,
      fun front f r back queue marks => ?_⟩⟩
    · rw [forwardMark_room room]
      exact kickForward_busy busy
    · rw [forwardMark_room room]
      exact boundary awake idle
    · rw [forwardMark_full full, lastCopy_none marks]
      obtain ⟨time, hop, delay, quality, received, opens⟩ := m
      cases opens <;> rfl
    · intro displaced
      have moved : w.forwardMark m = ((waiting (placedIn (front ++ back))).discardCopy (.copy f r)).kickForward := by
        rw [forwardMark_full full, queue, lastCopy_some rfl marks]
        simp only [State.onLiu, queue, dropLastCopy_eq (c := .copy f r) rfl marks]
        rfl
      refine ⟨fun plain busy => ?_, fun plain idle => ?_, fun restart => ?_⟩
      · rw [moved, plain]
        exact kickForward_busy busy
      · rw [moved, plain]
        exact boundary awake idle
      · rw [moved, restart, discardCopy_restart]
        exact startForward_resetting (by simp) _

end Sys2Proof.Machine
end

section
/-! SUPPORT. Steps of the show clock, block by block (R108). -/
namespace Sys2Proof.Machine

variable {s : State}

/-- A channel after a step of k from now: what it runs moves, and a busy-until reached before or after lapses. -/
def Channel.movedBy (k : Int) (now : ShowTime) (c : Channel) : Channel :=
  { c with
    drive := c.drive.map fun d => { d with start := d.start + BitVec.ofInt 32 k }
    recoveryEnd := c.recoveryEnd.map fun t => t + BitVec.ofInt 32 k
    busyUntil :=
      match c.busyUntil with
      | none => none
      | some t => if signedDiff t now ≤ 0 ∨ signedDiff t (now + BitVec.ofInt 32 k) ≤ 0 then none else some t }

theorem moveBy_eq (k : Int) (now : ShowTime) (c : Channel) : c.moveBy k now = c.movedBy k now := by
  unfold Channel.moveBy Channel.movedBy
  congr 1
  cases c.busyUntil with
  | none => rfl
  | some t =>
    simp only [lapsing_eq_ite]
    by_cases before : signedDiff t now ≤ 0
    · rw [if_neg (Int.not_lt.2 before), if_pos (.inl before)]
      rfl
    · rw [if_pos (Int.not_le.1 before), lapsing_eq_ite]
      by_cases after : signedDiff t (now + BitVec.ofInt 32 k) ≤ 0
      · exact (if_neg (Int.not_lt.2 after)).trans (if_pos (Or.inr after)).symm
      · exact (if_pos (Int.not_le.1 after)).trans (if_neg (not_or.2 ⟨before, after⟩)).symm

theorem moveTimes_eq (k : Int) (s : State) : (s.moveTimes k).onScu (Scu.stepped k) =
    { s with
      scu := { s.scu with now := s.now + BitVec.ofInt 32 k, slew := 0 }
      stc := { s.stc with channels := tabulate fun n => (s.stc.channels[n]).movedBy k s.now }
      dmc :=
        { dampers := tabulate fun d =>
            let v := s.dmc.dampers[d]
            { v with
              travelEnd := v.travelEnd.map fun t => t + BitVec.ofInt 32 k
              hold := v.hold.map fun t => t + BitVec.ofInt 32 k } }
      rot :=
        { s.rot with
          cycle := s.rot.cycle.map fun c => { c with nextChange := c.nextChange + BitVec.ofInt 32 k } } } := by
  have moves : (s.mapChannels fun _ c => c.moveBy k s.now) = s.mapChannels fun _ c => c.movedBy k s.now :=
    mapChannels_congr (fun _ c => moveBy_eq k s.now c) s
  rw [State.moveTimes, moves]
  rfl

/-- What leaves the schedule is counted as flushed (R49, R50). -/
def State.flushedTo (kept gone : List Entry) (s : State) : State :=
  { s with
    sch :=
      { s.sch with
        entries := kept
        flushed := s.sch.flushed + BitVec.ofNat 32 (gone.countP Entry.isStrike)
        damperFlushed := s.sch.damperFlushed + BitVec.ofNat 32 (gone.countP fun (x : Entry) => !x.isStrike) } }

theorem scheduleStep_eq (k : Int) (s : State) : s.scheduleStep k =
    if k < -4194304 ∨ 4194304 < k then s.flushedTo [] s.sch.entries
    else if 0 < k then s.takeDue
    else
      s.flushedTo (s.sch.entries.filter fun (x : Entry) => decide (signedDiff x.action s.now ≤ 4194304))
        (s.sch.entries.filter fun (x : Entry) => decide (4194304 < signedDiff x.action s.now)) := by
  have far : Config.horizon < k.natAbs ↔ k < -4194304 ∨ 4194304 < k := by
    simp only [Config.horizon]
    omega
  simp only [State.scheduleStep, far]
  refine if_congr Iff.rfl (flushSchedule_eq s) (if_congr Iff.rfl rfl ?_)
  have stays (x : Entry) : (!decide ((Config.horizon : Int) < signedDiff x.action s.now)) =
      decide (signedDiff x.action s.now ≤ 4194304) :=
    (decide_not ..).symm.trans (decide_eq_decide.2 Int.not_lt)
  simp only [State.onSch, Sch.flush, stays, State.flushedTo]
  rfl

theorem after_event {c : Instr} {f : State → State} (run : ∀ s, exec c s = running f s) (awake : s.Awake) :
    s.after c = f s := State.after_eq ((run s).trans (running_awake awake _))

theorem foldl_windowEnds (l : List (Fin 24)) (awake : s.Awake) :
    l.foldl (fun x n => x.after (.impactWindowEnd n)) s = l.foldl (fun x n => x.takeWindowEnd n) s ∧
      (l.foldl (fun x n => x.takeWindowEnd n) s).Awake := by
  induction l generalizing s with
  | nil => exact ⟨rfl, awake⟩
  | cons n l ih =>
    have closed : s.after (.impactWindowEnd n) = s.takeWindowEnd n := after_event (fun _ => rfl) awake
    have awake' : (s.takeWindowEnd n).Awake := by
      have reset : s.resetting = none := awake
      simp [State.Awake, reset]
    rw [List.foldl_cons, List.foldl_cons, closed]
    exact ih awake'

theorem stepClock_zero (s : State) : s.stepClock 0 = { s with scu := { s.scu with slew := 0 } } := by
  have still : shiftBy 0 s.scu.now = s.scu.now := by simp [shiftBy]
  rw [State.stepClock, if_pos rfl, State.onScu, Scu.stepped, still]

/-- Entering ACQUIRING takes a pending swap into effect (R10). -/
theorem enterSync_acquiring (s : State) : s.enterSync .acquiring =
    if s.tbs.pendingSwap = none then { s with scu := { s.scu with sync := .acquiring } }
    else { s with scu := { s.scu with sync := .acquiring }, tbs := s.tbs.swap } := by
  unfold State.enterSync
  cases pending : s.tbs.pendingSwap with
  | none => simp [State.onScu]
  | some t => simp [State.onScu, State.onTbs, SyncState.notLocked]

/-- The position taken, and what becomes of CHAIN_TOO_LONG (R124). -/
theorem placed_eq (hop : Byte) (s : State) :
    let heard := s.countGood .upstream
    let placed : State :=
      { heard with
        liu :=
          { heard.liu with
            position := if 253 < hop.toNat then 255 else hop + 1
            chainTooLong := decide (253 < hop.toNat) } }
    s.placed hop =
      if 253 < hop.toNat ∧ s.liu.chainTooLong = false then placed.report .chainTooLong
      else if ¬253 < hop.toNat ∧ s.liu.chainTooLong = true then placed.reportEnd .chainTooLong
      else placed := by
  intro heard placed
  obtain ⟨-, -, same⟩ := countGood_downstream .upstream s
  simp only [State.placed, State.takePosition, same, placed]
  by_cases far : 253 < hop.toNat
  · have near : ¬hop.toNat ≤ 253 := Nat.not_le.2 far
    simp only [if_neg near, if_pos far, decide_eq_true far]
    cases long : s.liu.chainTooLong <;> simp [far, State.onLiu, heard]
  · have near : hop.toNat ≤ 253 := Nat.not_lt.1 far
    simp only [if_pos near, if_neg far, decide_eq_false far]
    cases long : s.liu.chainTooLong <;> simp [far, State.onLiu, heard]

/-- Settles O20: a step is its blocks' steps in order, and a MARK that steps takes just this step. -/
theorem clockStepsReachEveryBlock : Obligations.ClockStepsReachEveryBlock := by
  intro s awake
  refine ⟨stepClock_zero s, fun k moving => ?_, fun t h d q => ?_⟩
  · intro later moved flushed pending scheduled closed
    have moves : (s.moveTimes k).onScu (Scu.stepped k) = moved := moveTimes_eq k s
    have awakeMoved : moved.Awake := awake
    have due : moved.after .due = moved.takeDue := after_event (fun _ => rfl) awakeMoved
    have steps : moved.scheduleStep k = scheduled := by
      rw [scheduleStep_eq, ← due]
      rfl
    have awakeScheduled : scheduled.Awake := by
      have reset : moved.resetting = none := awakeMoved
      rw [← steps]
      simp [State.Awake, reset]
    obtain ⟨closes, awakeClosed⟩ := foldl_windowEnds (List.finRange 24) awakeScheduled
    have awakeAligned : closed.takeAlign.Awake := by
      have reset : closed.resetting = none := by rw [show closed = _ from closes]; exact awakeClosed
      simp [State.Awake, reset]
    have aligned : closed.after .alignTakesEffect = closed.takeAlign :=
      after_event (fun _ => rfl) (by rw [show closed = _ from closes]; exact awakeClosed)
    have swapped : closed.takeAlign.after .swapTimeReached = closed.takeAlign.takeSwapTime :=
      after_event (fun _ => rfl) awakeAligned
    rw [aligned, swapped, State.stepClock, if_neg moving, moves]
    simp only [steps]
    rw [show closed = _ from closes]
    rfl
  · intro target e far heard placed told clock seen swapping dueNow goesOn stepped restarted
    have places : s.placed h = told := placed_eq h s
    have sees : s.seen h d q = seen := by rw [State.seen, places]; rfl
    have goes {x : State} (answer : s.disciplined t h d q = x) : goesOn x := by
      have hop : (if h.toNat ≤ 253 then h + 1 else 254) = if 253 < h.toNat then (254 : Byte) else h + 1 := by
        rw [← ite_not]
        exact if_congr (by omega) rfl rfl
      have taken := exec_mark awake t h d q
      rw [takeMark_eq, answer, hop] at taken
      exact taken
    have acquires (x : State) : x.enterSync .acquiring = swapping (clock x { x.scu with sync := .acquiring }) :=
      (enterSync_acquiring x).trans (if_congr Iff.rfl rfl
        (congrArg (fun b => clock { x with tbs := b } { x.scu with sync := .acquiring }) (Tbs.swap_eq x.tbs)))
    have wide (b : Nat) (away : e < -b ∨ (b : Int) < e) : ¬e.natAbs ≤ b := by omega
    refine ⟨fun unlocked => goes ?_, fun acquiring away => goes ?_, fun holdover away => goes ?_⟩
    · rw [disciplined_eq, unlocked, sees]
      exact acquires _
    · rw [disciplined_eq, acquiring, sees]
      show State.markAcquiring e _ seen = _
      have unsure : ¬(0 = 8 ∧ (seen.node.compensation = false ∨ readQuality q ≠ .none)) := by simp
      simp only [State.markAcquiring, if_neg (wide 2 away), State.onScu_scu, if_neg unsure]
      have clear : ((seen.stepClock e).scu).slew = 0 := by rw [State.stepClock_scu]; rfl
      simp only [State.onScu, restarted, stepped, clock, ← clear]
    · rw [disciplined_eq, holdover, sees]
      show State.markHoldover e seen = _
      rw [State.markHoldover, if_neg (wide 64 away), acquires]
      rfl

end Sys2Proof.Machine
end

section
/-! SUPPORT. The checks of a PLAY: what it reads in the play bank, and the candidates (R1 to R8, R20 to R29). -/
namespace Sys2Proof.Machine

variable {s : State}

/-! ### Timing and candidates (R23 to R28) -/

theorem checkTiming_eq (d : ShowTime) (s : State) : s.checkTiming d =
    if 4194304 < signedDiff d s.now then .error .tooEarly
    else if signedDiff d s.now < s.node.setupMargin ∧
        (s.node.lateTolerance : Int) < s.node.setupMargin - signedDiff d s.now then .error .late
    else .ok (if (s.node.setupMargin : Int) ≤ signedDiff d s.now then d
      else s.now + BitVec.ofNat 32 s.node.setupMargin) := by
  have horizon : (Config.horizon : Int) = 4194304 := rfl
  simp only [State.checkTiming, horizon]
  by_cases early : 4194304 < signedDiff d s.now
  · rw [if_pos early, if_pos early]
  · rw [if_neg early, if_neg early]
    by_cases onTime : (s.node.setupMargin : Int) ≤ signedDiff d s.now
    · rw [if_pos onTime, if_pos onTime, if_neg fun late => absurd late.1 (Int.not_lt.2 onTime)]
    · rw [if_neg onTime, if_neg onTime]
      by_cases tolerated : (s.node.setupMargin : Int) - signedDiff d s.now ≤ s.node.lateTolerance
      · rw [if_pos tolerated, if_neg fun late => absurd late.2 (Int.not_lt.2 tolerated)]
        rfl
      · rw [if_neg tolerated, if_pos ⟨Int.not_le.1 onTime, Int.not_le.1 tolerated⟩]

theorem flightTime_eq (r : StrikerRecord) (trim : Int) (force : Nat) :
    let soft := if r.fSoft < r.fHard then r.fHard else r.fSoft
    let raw : Int := (r.fHard : Int) + ((soft - r.fHard) * (63 - force) + 31) / 62 + trim
    flightTime r trim force = if raw < 0 then 0 else raw.toNat := by
  intro soft raw
  have effective : r.fSoftEff = soft := by
    simp only [StrikerRecord.fSoftEff, soft]
    split <;> omega
  rw [flightTime, effective]
  split
  · rename_i negative
    exact Int.toNat_of_nonpos (Int.le_of_lt negative)
  · rfl

theorem conflicts_iff (n : Fin 24) (start : ShowTime) (s : State) : s.conflicts n start = true ↔
    (∃ x ∈ s.sch.entries, ∃ w e, x.work = .strike n w e ∧
      (s.strikerRecord n).wMax + (s.strikerRecord n).recovery ≠ 0 ∧
      signedDiff start (x.action + BitVec.ofNat 32 ((s.strikerRecord n).wMax + (s.strikerRecord n).recovery)) < 0 ∧
      signedDiff x.action (start + BitVec.ofNat 32 ((s.strikerRecord n).wMax + (s.strikerRecord n).recovery)) < 0) ∨
    (∃ t, (s.channel n).busyUntil = some t ∧ signedDiff start t < 0) := by
  simp only [State.conflicts, Bool.or_eq_true, List.any_eq_true, Option.any_eq_true, before_iff]
  refine or_congr (exists_congr fun x => and_congr_right fun _ => ?_) Iff.rfl
  cases x.work with
  | damper d a c => simp
  | strike m w e =>
    simp only [Bool.and_eq_true, beq_iff_eq, windowsOverlap, bne_iff_ne, before_iff, plusGrains, Work.strike.injEq]
    refine ⟨fun ⟨same, overlap⟩ => ⟨w, e, ⟨same, rfl, rfl⟩, overlap.1.1, overlap.1.2, overlap.2⟩,
      fun ⟨_, _, ⟨same, _, _⟩, long, before, after⟩ => ⟨same, ⟨long, before⟩, after⟩⟩

/-- A candidate out of service fails; another one fails by its timing, or by a conflict (R23 to R27). -/
theorem tryStriker_out {n : Fin 24} (h : (s.channelState n).outOfService = true) (force : Nat) (target : ShowTime) :
    s.tryStriker n force target = .error .outOfService := by
  rw [State.tryStriker, if_pos h]

theorem tryStriker_timed {n : Fin 24} (h : ¬(s.channelState n).outOfService = true) (force : Nat) (target : ShowTime) :
    s.tryStriker n force target =
      match s.checkTiming (target - BitVec.ofNat 32 (flightTime (s.strikerRecord n) (s.channel n).trim force)) with
      | .error r => .error r
      | .ok start =>
        if s.conflicts n start then .error .busy
        else .ok
          { striker := n, start := start
            margin := signedDiff
              (target - BitVec.ofNat 32 (flightTime (s.strikerRecord n) (s.channel n).trim force)) s.now
            flight := flightTime (s.strikerRecord n) (s.channel n).trim force } := by
  exact if_neg h

/-- Settles O14: the checks of one candidate in their order, and the primary before the alternate. -/
theorem candidatesAreTriedInOrder : Obligations.CandidatesAreTriedInOrder := by
  refine ⟨fun m => rfl, fun s n force target => ?_⟩
  intro r c soft raw flight d margin setup start length out late busy
  have out_iff : (s.channelState n).outOfService = true ↔ out := outOfService_iff
  have flies : flightTime (s.strikerRecord n) (s.channel n).trim force = flight := flightTime_eq ..
  have timing : s.checkTiming d = if 4194304 < margin then .error .tooEarly
      else if late then .error .late else .ok start := checkTiming_eq d s
  have conflict : s.conflicts n start = true ↔ busy := conflicts_iff n start s
  have tried (inService : ¬out) : s.tryStriker n force target = match s.checkTiming d with
      | .error r => .error r
      | .ok start =>
        if s.conflicts n start then .error .busy
        else .ok { striker := n, start := start, margin := margin, flight := flight } := by
    have h := tryStriker_timed (mt out_iff.1 inService) force target
    rw [flies] at h
    exact h
  refine ⟨fun h => tryStriker_out (out_iff.2 h) force target, fun serves early => ?_, fun serves near isLate => ?_,
    fun serves near onTime isBusy => ?_, fun serves near onTime free => ?_, fun e => ⟨fun k ok => ?_,
      fun k failed alone => ?_, fun k a failed other => ?_⟩⟩
  · rw [tried serves, timing, if_pos early]
  · rw [tried serves, timing, if_neg (Int.not_lt.2 near), if_pos isLate]
  · rw [tried serves, timing, if_neg (Int.not_lt.2 near), if_neg onTime]
    exact if_pos (conflict.2 isBusy)
  · rw [tried serves, timing, if_neg (Int.not_lt.2 near), if_neg onTime]
    exact if_neg (mt conflict.1 free)
  · rw [State.chooseStriker, ok]
  · rw [State.chooseStriker, failed, alone]
  · rw [State.chooseStriker, failed, other]

/-! ### What a PLAY reads (R1 to R8, R19, R29) -/

theorem clampInt_toNat (n : Int) : ((clampInt 1 63 n).toNat : Int) = clampInt 1 63 n := by
  simp only [clampInt]
  split
  · rfl
  · split <;> omega

theorem readForce_eq (b : Byte) :
    (readForce b : Int) = if b.toNat = 0 then 1 else if 63 < b.toNat then 63 else (b.toNat : Int) := by
  simp only [readForce, clampNat]
  by_cases zero : b.toNat = 0
  · rw [if_pos (by omega), if_pos zero]; rfl
  · rw [if_neg (by omega), if_neg zero]
    split <;> rfl

/-- The articulation item a code names in a bank. -/
def Bank.articulation (b : Bank) (art : Byte) : Option ArticulationItem :=
  if art = 1 then some b.articulations[0]
  else if art = 2 then some b.articulations[1]
  else if art = 3 then some b.articulations[2]
  else none

theorem articulation_eq (b : Bank) (art : Byte) :
    b.articulation art = (readArticulation art).map fun a => b.articulations[a] := by
  unfold Bank.articulation readArticulation
  by_cases first : art = 1
  · rw [if_pos first, if_pos first]; rfl
  · rw [if_neg first, if_neg first]
    by_cases second : art = 2
    · rw [if_pos second, if_pos second]; rfl
    · rw [if_neg second, if_neg second]
      by_cases third : art = 3
      · rw [if_pos third, if_pos third]; rfl
      · rw [if_neg third, if_neg third]; rfl

theorem resolveForce_eq (b : Bank) (n : NoteEntry) (force art : Byte) : ((resolveForce b n force art : Nat) : Int) =
    match b.articulation art with
    | none => clampInt 1 63 (readForce force + n.offset)
    | some a => clampInt 1 63 (clampInt 1 63 (readForce force + n.offset) + a.offset) := by
  rw [articulation_eq, resolveForce]
  cases readArticulation art <;> exact clampInt_toNat _

theorem resolveCurve_eq (b : Bank) (n : NoteEntry) (art : Byte) : resolveCurve b n art =
    match b.articulation art with
    | none => n.curve
    | some a => (match a.curve with | none => n.curve | some c => c) := by
  rw [articulation_eq, resolveCurve]
  cases readArticulation art with
  | none => rfl
  | some a =>
    show b.articulations[a].curve.getD n.curve = match b.articulations[a].curve with | none => n.curve | some c => c
    cases b.articulations[a].curve <;> rfl

/-- Settles O16: the force, the curve, the width and the choke entry that a PLAY reads. -/
theorem playsAreResolvedThroughThePlayBank : Obligations.PlaysAreResolvedThroughThePlayBank := by
  refine ⟨fun s => rfl, fun b n force art => ?_, fun b curve force i item => ?_, fun s n start target choke => ?_⟩
  · intro clamped f0 f1 item
    have forced : (readForce force : Int) = f0 := readForce_eq force
    refine ⟨?_, resolveCurve_eq b n art⟩
    rw [resolveForce_eq, forced]
    rfl
  · rw [Bank.curveWidth, ← item]
    simp [Vector.getD]
  · refine ⟨fun absent => ?_, fun none => ?_, fun d named disabled => ?_, fun d c named enabled duration => ?_⟩
    · rw [absent]
      rfl
    · unfold State.chokeEntry
      rw [none]
      cases choke <;> rfl
    · unfold State.chokeEntry
      rw [named]
      cases choke with
      | none => rfl
      | some c => exact if_neg (by simp [disabled])
    · intro goal a
      unfold State.chokeEntry
      rw [named, duration]
      refine (if_pos enabled).trans ?_
      have action : s.chokeAction start a = if signedDiff a start < 0 then start
          else if 4194304 < signedDiff a s.now then s.now + BitVec.ofNat 32 4194304 else a := by
        simp only [State.chokeAction, before_iff]
        rfl
      rw [← action]
      rfl

end Sys2Proof.Machine
end

section
/-! SUPPORT. Requests: refusals, acceptances and their entries (R17 to R20, R29 to R41). -/
namespace Sys2Proof.Machine

variable {s : State}

/-! ### The decision on a PLAY (R17 to R30) -/

theorem requestOpen_notPlaying (h : s.mdc.mode ≠ .run) : s.requestOpen = .error .notPlaying := if_pos h

theorem requestOpen_noClock (run : s.mdc.mode = .run) (h : s.scu.sync = .unlocked ∨ s.scu.sync = .acquiring) :
    s.requestOpen = .error .noClock := by
  rw [State.requestOpen, if_neg (not_not_intro run), if_pos]
  rcases h with h | h <;> rw [h] <;> rfl

theorem requestOpen_ok (run : s.mdc.mode = .run) (h : s.scu.sync = .locked ∨ s.scu.sync = .holdover) :
    s.requestOpen = .ok () := by
  rw [State.requestOpen, if_neg (not_not_intro run), if_neg]
  rcases h with h | h <;> rw [h] <;> exact Bool.false_ne_true

section
variable (note force art : Byte) (target : ShowTime) (choke : Option Half)

theorem decidePlay_closed {r : RefuseReason} (h : s.requestOpen = .error r) :
    s.decidePlay note force art target choke = .error r := by
  rw [State.decidePlay, h]
  rfl

theorem decidePlay_unmapped (opened : s.requestOpen = .ok ())
    (h : ∀ h : note.toNat < 128, s.tbs.playTables.notes[note.toNat].enabled = false) :
    s.decidePlay note force art target choke = .error .unmapped := by
  rw [State.decidePlay, opened]
  simp only [bind, Except.bind, Bank.note]
  by_cases small : note.toNat < 128
  · rw [dif_pos small]
    exact if_pos (h small)
  · rw [dif_neg small]

/-- A PLAY of an enabled note is decided by its width, its candidates and the free places. -/
theorem decidePlay_mapped (opened : s.requestOpen = .ok ()) (small : note.toNat < 128)
    (enabled : s.tbs.playTables.notes[note.toNat].enabled = true) {w : Nat}
    (width : s.tbs.playTables.curveWidth (resolveCurve s.tbs.playTables s.tbs.playTables.notes[note.toNat] art)
      (resolveForce s.tbs.playTables s.tbs.playTables.notes[note.toNat] force art) * (s.acu.gain.toNat + 1) / 256 = w) :
    s.decidePlay note force art target choke =
      if w = 0 then .error .silent
      else
        match s.chooseStriker s.tbs.playTables.notes[note.toNat]
          (resolveForce s.tbs.playTables s.tbs.playTables.notes[note.toNat] force art) target with
        | .error r => .error r
        | .ok c =>
          if s.sch.free < (strikeEntry c target w ::
              (s.chokeEntry s.tbs.playTables.notes[note.toNat] c.start target choke).toList).length then .error .full
          else .ok (c, strikeEntry c target w ::
              (s.chokeEntry s.tbs.playTables.notes[note.toNat] c.start target choke).toList) := by
  have noted : s.tbs.playTables.note note = some s.tbs.playTables.notes[note.toNat] := dif_pos small
  subst width
  rw [State.decidePlay, opened]
  simp only [bind, Except.bind, noted]
  exact if_neg (by simp [enabled])

end

/-! ### Refusals (R36) -/

theorem refuse_eq {r : RefuseReason} (h : r ≠ .full) (s : State) : s.refuse r =
    { s with acu := { s.acu with refusals := s.acu.refusals.add r } } := if_neg h

theorem refuse_full (s : State) : s.refuse .full =
    ({ s with acu := { s.acu with refusals := { s.acu.refusals with full := s.acu.refusals.full + 1 } } } :
      State).report .scheduleFull := rfl

theorem takePlay_error {note force art : Byte} {target : ShowTime} {choke : Option Half} {r : RefuseReason}
    (h : s.decidePlay note force art target choke = .error r) :
    s.takePlay note force art target choke = s.refuse r := by
  rw [State.takePlay, h]

theorem takeMute_error {selector action : Byte} {target : ShowTime} {r : RefuseReason}
    (h : s.decideMute (readSelector selector) (readAction action) target = .error r) :
    s.takeMute selector action target = s.refuse r := by
  rw [State.takeMute, h]

/-- The reasons of a candidate (R23 to R27). -/
theorem tryStriker_reason {n : Fin 24} {force : Nat} {target : ShowTime} {r : RefuseReason}
    (h : s.tryStriker n force target = .error r) :
    r = .outOfService ∨ r = .tooEarly ∨ r = .late ∨ r = .busy := by
  by_cases out : (s.channelState n).outOfService = true
  · rw [tryStriker_out out] at h
    cases h
    exact .inl rfl
  · rw [tryStriker_timed out, checkTiming_eq] at h
    split at h
    · rename_i timed
      cases h
      split at timed
      · cases timed; exact .inr (.inl rfl)
      · split at timed
        · cases timed; exact .inr (.inr (.inl rfl))
        · cases timed
    · split at h
      · cases h; exact .inr (.inr (.inr rfl))
      · cases h

theorem chooseStriker_reason {e : NoteEntry} {force : Nat} {target : ShowTime} {r : RefuseReason}
    (h : s.chooseStriker e force target = .error r) :
    r = .outOfService ∨ r = .tooEarly ∨ r = .late ∨ r = .busy := by
  unfold State.chooseStriker at h
  split at h
  · cases h
  · rename_i primary
    split at h
    · cases h
      exact tryStriker_reason primary
    · exact tryStriker_reason h

/-! ### The decision on a MUTE (R34, R35) -/

theorem decideMute_closed {r : RefuseReason} (h : s.requestOpen = .error r) (selector : Option (Fin 4))
    (a : DamperAction) (target : ShowTime) : s.decideMute selector a target = .error r := by
  rw [State.decideMute, h]
  rfl

theorem filter_named : ∀ (m : Fin 4) (p : Fin 4 → Bool),
    (if p m = true then [m] else []) = [0, 1, 2, 3].filter fun d => decide (m = d ∧ p d = true) := by decide

/-- The enabled dampers that a selector byte names, in damper order. -/
theorem selectDampers_eq (selector : Byte) (s : State) : s.selectDampers (readSelector selector) =
    [0, 1, 2, 3].filter fun d =>
      decide ((selector.toNat = d.val ∨ 4 ≤ selector.toNat) ∧ (s.damperRecord d).enabled = true) := by
  unfold readSelector State.selectDampers
  by_cases one : selector.toNat < 4
  · rw [dif_pos one]
    simp only []
    generalize named : (⟨selector.toNat, one⟩ : Fin 4) = m
    have same (d : Fin 4) : (selector.toNat = d.val ∨ 4 ≤ selector.toNat) ↔ m = d := by
      rw [← named, Fin.ext_iff]
      exact ⟨fun h => h.resolve_right (Nat.not_le.2 one), .inl⟩
    simp only [same]
    exact filter_named m fun d => (s.damperRecord d).enabled
  · have all (d : Fin 4) : (selector.toNat = d.val ∨ 4 ≤ selector.toNat) ↔ True :=
      iff_true_intro (.inr (Nat.not_lt.1 one))
    rw [dif_neg one]
    simp only [all, true_and, Bool.decide_eq_true]
    rfl

theorem decideMute_none (opened : s.requestOpen = .ok ()) {selector : Option (Fin 4)}
    (none : s.selectDampers selector = []) (a : DamperAction) (target : ShowTime) :
    s.decideMute selector a target = .error .outOfService := by
  rw [State.decideMute, opened]
  simp only [bind, Except.bind, none]

theorem decideMute_failed (opened : s.requestOpen = .ok ()) {selector : Option (Fin 4)}
    (some : s.selectDampers selector ≠ []) {a : DamperAction} {target : ShowTime} {r : RefuseReason}
    (h : s.damperEntries a target (s.selectDampers selector) = .error r) :
    s.decideMute selector a target = .error r := by
  rw [State.decideMute, opened]
  cases chosen : s.selectDampers selector with
  | nil => exact absurd chosen some
  | cons d ds =>
    rw [chosen] at h
    simp only [bind, Except.bind, h]

theorem decideMute_passed (opened : s.requestOpen = .ok ()) {selector : Option (Fin 4)}
    (some : s.selectDampers selector ≠ []) {a : DamperAction} {target : ShowTime} {es : List Entry}
    (h : s.damperEntries a target (s.selectDampers selector) = .ok es) :
    s.decideMute selector a target = if s.sch.free < es.length then .error .full else .ok es := by
  rw [State.decideMute, opened]
  cases chosen : s.selectDampers selector with
  | nil => exact absurd chosen some
  | cons d ds =>
    rw [chosen] at h
    simp only [bind, Except.bind, h]

section
variable {e note force art selector action : Byte} {target : ShowTime} {choke : Option Half}

/-- A heard PLAY whose decision names a reason before FULL is refused with one count. -/
theorem exec_play_refused (awake : s.Awake) (hears : s.HearsEnsemble e) {r : RefuseReason}
    (h : (s.countGood .upstream).decidePlay note force art target choke = .error r) (early : r ≠ .full) :
    exec (.play e note force art target choke) s = .next
      (({ s.countGood .upstream with
          acu := { (s.countGood .upstream).acu with
            refusals := (s.countGood .upstream).acu.refusals.add r } } : State).forwardCopy
        (playFrame e note force art target choke) false) := by
  rw [exec_heard rfl awake hears, takePlay_error h, refuse_eq early]

theorem exec_mute_refused (awake : s.Awake) (hears : s.HearsEnsemble e) {r : RefuseReason}
    (h : (s.countGood .upstream).decideMute (readSelector selector) (readAction action) target = .error r)
    (early : r ≠ .full) :
    exec (.mute e selector action target) s = .next
      (({ s.countGood .upstream with
          acu := { (s.countGood .upstream).acu with
            refusals := (s.countGood .upstream).acu.refusals.add r } } : State).forwardCopy
        (muteFrame e selector action target) false) := by
  rw [exec_heard rfl awake hears, takeMute_error h, refuse_eq early]

end

/-- Settles O13: each decision by its first failing check. -/
theorem requestsAreRefusedByTheFirstFailingCheck : Obligations.RequestsAreRefusedByTheFirstFailingCheck := by
  intro s e note force art target choke selector action awake hears heard refused was play mute playFrame muteFrame bank
  have parts : heard.mdc = s.mdc ∧ heard.scu = s.scu ∧ heard.tbs = s.tbs ∧ heard.acu = s.acu := by simp [heard]
  obtain ⟨mode, clock, tables, unit⟩ := parts
  have plays {r : RefuseReason} (h : heard.decidePlay note force art target choke = .error r) (early : r ≠ .full) :
      play = .next ((refused (was.add r)).forwardCopy playFrame false) := exec_play_refused awake hears h early
  have mutes {r : RefuseReason} (h : heard.decideMute (readSelector selector) (readAction action) target = .error r)
      (early : r ≠ .full) : mute = .next ((refused (was.add r)).forwardCopy muteFrame false) :=
    exec_mute_refused awake hears h early
  refine ⟨fun other => ?_, fun run unclocked => ?_, fun run clocked => ?_⟩
  · have closed : heard.requestOpen = .error .notPlaying := requestOpen_notPlaying (by rwa [mode])
    exact ⟨plays (decidePlay_closed _ _ _ _ _ closed) (by decide), mutes (decideMute_closed closed _ _ _) (by decide)⟩
  · have closed : heard.requestOpen = .error .noClock := requestOpen_noClock (by rwa [mode]) (by rwa [clock])
    exact ⟨plays (decidePlay_closed _ _ _ _ _ closed) (by decide), mutes (decideMute_closed closed _ _ _) (by decide)⟩
  · have opened : heard.requestOpen = .ok () := requestOpen_ok (by rwa [mode]) (by rwa [clock])
    have banked : heard.tbs.playTables = bank := by rw [tables]
    refine ⟨fun unmapped => ?_, fun small enabled => ?_, fun disabled => ?_⟩
    · exact plays (decidePlay_unmapped _ _ _ _ _ opened (by rw [banked]; exact unmapped)) (by decide)
    · intro n width f failing counted
      have decided := decidePlay_mapped note force art target choke opened small (by rw [banked]; exact enabled)
        (w := width * (s.acu.gain.toNat + 1) / 256) (by rw [banked, unit])
      rw [banked] at decided
      have fails {r : RefuseReason} (loud : width * (s.acu.gain.toNat + 1) / 256 ≠ 0) (failed : failing r)
          (early : r ≠ .full) : play = .next ((refused (was.add r)).forwardCopy playFrame false) := by
        refine plays (decided.trans ?_) early
        rw [if_neg loud, show heard.chooseStriker n f target = .error r from failed]
      refine ⟨fun silent => plays (decided.trans (if_pos silent)) (by decide), fun loud =>
        ⟨fun h => fails loud h (by decide), fun h => fails loud h (by decide), fun h => fails loud h (by decide),
          fun h => fails loud h (by decide), fun r h => chooseStriker_reason h⟩⟩
    · have none : heard.selectDampers (readSelector selector) = [] := by
        rw [selectDampers_eq, List.filter_eq_nil_iff]
        intro d _
        rw [decide_eq_true_eq, State.damperRecord, tables]
        rintro ⟨named, enabled⟩
        exact Bool.false_ne_true ((disabled d named).symm.trans enabled)
      exact mutes (decideMute_none opened none _ _) (by decide)

end Sys2Proof.Machine
end

section
/-! SUPPORT. Accepted requests: their entries, in their places (R29 to R35, R39, R41). -/
namespace Sys2Proof.Machine

variable {s : State}

/-! ### An entry's place (R39) -/

/-- In a list where what passes a test stands before what does not, the test splits it in two. -/
theorem takeWhile_dropWhile_eq_filter {α : Type} {p : α → Bool} {l : List α}
    (h : l.Pairwise fun a b => p b = true → p a = true) :
    l.takeWhile p = l.filter p ∧ l.dropWhile p = l.filter fun a => !p a := by
  induction l with
  | nil => exact ⟨rfl, rfl⟩
  | cons x xs ih =>
    obtain ⟨first, rest⟩ := List.pairwise_cons.1 h
    by_cases passes : p x = true
    · obtain ⟨taken, dropped⟩ := ih rest
      simp [passes, taken, dropped]
    · have none : ∀ a ∈ xs, p a = false := fun a mem => Bool.eq_false_iff.2 fun later => passes (first a mem later)
      simp only [Bool.not_eq_true] at passes
      simp only [List.takeWhile_cons, List.dropWhile_cons, List.filter_cons, passes, Bool.false_eq_true, if_false,
        Bool.not_false, if_true]
      exact ⟨(List.filter_eq_nil_iff.2 fun a mem => by simp [none a mem]).symm,
        congrArg _ (List.filter_eq_self.2 fun a mem => by simp [none a mem]).symm⟩

/-- In an ordered schedule within the horizon an entry stands after every one that is not after it. -/
theorem insertEntry_ordered {y : Entry}
    (order : s.sch.entries.Pairwise fun (a b : Entry) => signedDiff a.action b.action ≤ 0)
    (span : ∀ x ∈ y :: s.sch.entries, 0 ≤ signedDiff x.action s.now ∧ signedDiff x.action s.now ≤ 4194304) :
    insertEntry y s.sch.entries
      = s.sch.entries.filter (fun (x : Entry) => decide (signedDiff x.action y.action ≤ 0))
        ++ y :: s.sch.entries.filter (fun (x : Entry) => decide (0 < signedDiff x.action y.action)) := by
  have diff {a b : Entry} (ha : a ∈ y :: s.sch.entries) (hb : b ∈ y :: s.sch.entries) :
      signedDiff a.action b.action = signedDiff a.action s.now - signedDiff b.action s.now := by
    have low := span a ha
    have high := span b hb
    exact signedDiff_eq_sub _ _ _ (by omega) (by omega)
  have split : s.sch.entries.Pairwise fun (a b : Entry) =>
      reached b.action y.action = true → reached a.action y.action = true := by
    refine order.imp_of_mem fun {a b} ha hb before => ?_
    have hy : y ∈ y :: s.sch.entries := List.mem_cons_self
    have ha := List.mem_cons_of_mem y ha
    have hb := List.mem_cons_of_mem y hb
    rw [reached_iff, reached_iff, diff hb hy, diff ha hy]
    rw [diff ha hb] at before
    omega
  obtain ⟨taken, dropped⟩ := takeWhile_dropWhile_eq_filter split
  have after (x : Entry) : (!reached x.action y.action) = decide (0 < signedDiff x.action y.action) := by
    rw [reached, ← decide_not]
    exact decide_eq_decide.2 Int.not_le
  rw [insertEntry_eq, taken, dropped]
  simp only [after]
  rfl

/-! ### The entries of a PLAY (R29, R31, R32) -/

theorem chokeEntry_damper {n : NoteEntry} {start target : ShowTime} {choke : Option Half} {x : Entry}
    (h : x ∈ (s.chokeEntry n start target choke).toList) : x.isStrike = false := by
  unfold State.chokeEntry at h
  split at h
  · simp only [] at h
    split at h
    · simp only [Option.toList_some, List.mem_singleton] at h
      subst h
      rfl
    · exact absurd h List.not_mem_nil
  · exact absurd h List.not_mem_nil

/-- A choke entry is formed from the tables and the clock alone. -/
theorem chokeEntry_congr {t : State} (tables : t.tbs = s.tbs) (clock : t.scu = s.scu) (n : NoteEntry)
    (start target : ShowTime) (choke : Option Half) :
    t.chokeEntry n start target choke = s.chokeEntry n start target choke := by
  have record (d : Fin 4) : t.damperRecord d = s.damperRecord d := by rw [State.damperRecord, tables]; rfl
  have action (a : ShowTime) : t.chokeAction start a = s.chokeAction start a := by
    simp only [State.chokeAction, State.now, clock]
  unfold State.chokeEntry
  cases choke with
  | none => rfl
  | some c =>
    cases n.choke with
    | none => rfl
    | some d => simp only [record, action]

/-- A list of damper entries is counted as that. -/
theorem counts_of_dampers {es : List Entry} (h : ∀ x ∈ es, x.isStrike = false) :
    strikeCount es = 0 ∧ damperCount es = es.length :=
  ⟨List.countP_eq_zero.2 fun x mem => by simp [h x mem], List.countP_eq_length.2 fun x mem => by simp [h x mem]⟩

theorem LeadMargins.take_eq (m : Int) (l : LeadMargins) : l.take m =
    { minimum := some (match l.minimum with | none => m | some x => min m x)
      maximum := some (match l.maximum with | none => m | some x => max m x)
      last := some m } := by
  obtain ⟨minimum, maximum, last⟩ := l
  cases minimum <;> cases maximum <;> rfl

theorem free_lt_iff {q : Sch} {n : Nat} (some : 0 < n) : q.free < n ↔ 256 < q.entries.length + n := by
  simp only [Sch.free, Config.scheduleCapacity]
  omega

/-- The schedule with a strike entry and damper entries inserted (R31, R41). -/
theorem insertAll_strike_dampers {strike : Entry} {chokes : List Entry} (first : strike.isStrike = true)
    (rest : ∀ x ∈ chokes, x.isStrike = false) (q : Sch) : q.insertAll (strike :: chokes) =
    { q with
      entries := chokes.foldl (fun l x => insertEntry x l) (insertEntry strike q.entries)
      accepted := q.accepted + 1
      damperAccepted := q.damperAccepted + BitVec.ofNat 32 chokes.length } := by
  obtain ⟨strikes, dampers⟩ := counts_of_dampers rest
  have one : strikeCount (strike :: chokes) = 1 := by
    rw [show strikeCount (strike :: chokes) = _ from List.countP_cons, first, if_pos rfl]
    exact congrArg (· + 1) strikes
  have others : damperCount (strike :: chokes) = chokes.length := by
    rw [show damperCount (strike :: chokes) = _ from List.countP_cons, first, if_neg (by decide)]
    exact dampers
  rw [Sch.insertAll, one, others]
  rfl

/-- Settles O15: the place by `insertEntry_ordered`, the PLAY by its decision. -/
theorem acceptedPlayIsInserted : Obligations.AcceptedPlayIsInserted := by
  refine ⟨fun s y order span => insertEntry_ordered order span,
    fun s e note force art target choke k small awake hears run clocked => ?_⟩
  intro heard bank n f w1 enabled loud chosen strike chokes margins accepted
  have parts : heard.mdc = s.mdc ∧ heard.scu = s.scu ∧ heard.tbs = s.tbs ∧ heard.acu = s.acu ∧ heard.sch = s.sch := by
    simp [heard]
  obtain ⟨mode, clock, tables, unit, schedule⟩ := parts
  have opened : heard.requestOpen = .ok () := requestOpen_ok (by rwa [mode]) (by rwa [clock])
  have banked : heard.tbs.playTables = bank := by rw [tables]
  have choking : heard.chokeEntry n k.start target choke = s.chokeEntry n k.start target choke :=
    chokeEntry_congr tables clock ..
  have decided := decidePlay_mapped note force art target choke opened small (by rw [banked]; exact enabled)
    (w := w1) (by rw [banked, unit])
  rw [banked, if_neg loud] at decided
  simp only [show heard.chooseStriker bank.notes[note.toNat] (resolveForce bank bank.notes[note.toNat] force art)
    target = .ok k from chosen, show heard.chokeEntry bank.notes[note.toNat] k.start target choke =
      s.chokeEntry n k.start target choke from choking] at decided
  have places : heard.sch.free < (strike :: chokes).length ↔ 256 < s.sch.entries.length + 1 + chokes.length := by
    rw [free_lt_iff (by simp), schedule, List.length_cons, Nat.add_assoc, Nat.add_comm 1]
  have taken : exec (.play e note force art target choke) s =
      .next ((heard.takePlay note force art target choke).forwardCopy
        (playFrame e note force art target choke) false) :=
    exec_heard rfl awake hears
  refine ⟨fun room => ?_, fun full => ?_⟩
  · have fits : ¬heard.sch.free < (strike :: chokes).length := mt places.1 (Nat.not_lt.2 room)
    have schedules : heard.sch.insertAll (strike :: chokes) = accepted.sch := by
      have same : heard.sch.entries = s.sch.entries := by rw [schedule]
      rw [insertAll_strike_dampers (strike := strike) rfl fun x mem => chokeEntry_damper mem, same]
    have statistics : heard.acu.margins.take k.margin = accepted.acu.margins := by
      have same : heard.acu.margins = margins := by rw [unit]
      exact (congrArg (LeadMargins.take k.margin) same).trans (LeadMargins.take_eq ..)
    have accepts : (heard.onSch (Sch.insertAll (strike :: chokes))).onAcu
        (fun a => { a with margins := a.margins.take k.margin }) = accepted :=
      congrArg₂ (fun q m => ({ heard with sch := q, acu := { heard.acu with margins := m } } : State))
        schedules statistics
    have due : accepted.after .due = accepted.takeDue := by
      have reset : s.resetting = none := awake
      exact after_event (fun _ => rfl) (show heard.resetting = none by simp [heard, reset])
    rw [taken, State.takePlay, decided.trans (if_neg fits), due, ← accepts]
    rfl
  · rw [taken, takePlay_error (decided.trans (if_pos (places.2 full)))]
    rfl

/-! ### The entries of a MUTE (R34, R35) -/

/-- A damper's entry, at the first instant at which it may act. -/
def State.muteEntry (a : DamperAction) (target : ShowTime) (s : State) (d : Fin 4) : Entry :=
  let at_ := target - BitVec.ofNat 32 ((s.damperRecord d).travelTime a)
  { action := if (s.node.setupMargin : Int) ≤ signedDiff at_ s.now then at_
      else s.now + BitVec.ofNat 32 s.node.setupMargin
    target := target, work := .damper d a false }

/-- A damper's margin before its action. -/
def State.muteMargin (a : DamperAction) (target : ShowTime) (s : State) (d : Fin 4) : Int :=
  signedDiff (target - BitVec.ofNat 32 ((s.damperRecord d).travelTime a)) s.now

def State.muteEarly (a : DamperAction) (target : ShowTime) (s : State) (d : Fin 4) : Bool :=
  decide (4194304 < s.muteMargin a target d)

def State.muteLate (a : DamperAction) (target : ShowTime) (s : State) (d : Fin 4) : Bool :=
  decide (s.muteMargin a target d < s.node.setupMargin ∧
    (s.node.lateTolerance : Int) < s.node.setupMargin - s.muteMargin a target d)

theorem damperEntry_eq (a : DamperAction) (target : ShowTime) (s : State) (d : Fin 4) : s.damperEntry a target d =
    if s.muteEarly a target d = true then .error .tooEarly
    else if s.muteLate a target d = true then .error .late
    else .ok (s.muteEntry a target d) := by
  simp only [State.muteEarly, State.muteLate, decide_eq_true_eq]
  rw [State.damperEntry, checkTiming_eq]
  by_cases early : 4194304 < s.muteMargin a target d
  · rw [if_pos early, if_pos (show 4194304 < signedDiff _ s.now from early)]
  · rw [if_neg early, if_neg (show ¬4194304 < signedDiff _ s.now from early)]
    by_cases late : s.muteMargin a target d < s.node.setupMargin ∧
        (s.node.lateTolerance : Int) < s.node.setupMargin - s.muteMargin a target d
    · rw [if_pos late, if_pos (show signedDiff _ s.now < _ ∧ _ < _ - signedDiff _ s.now from late)]
    · rw [if_neg late, if_neg (show ¬(signedDiff _ s.now < _ ∧ _ < _ - signedDiff _ s.now) from late)]
      rfl

/-- The first damper that fails gives the reason; with none that fails each has its entry (R35). -/
theorem damperEntries_eq (a : DamperAction) (target : ShowTime) (s : State) (ds : List (Fin 4)) :
    (∀ d, ds.find? (fun d => s.muteEarly a target d || s.muteLate a target d) = some d →
      s.damperEntries a target ds = .error (if s.muteEarly a target d = true then .tooEarly else .late)) ∧
    (ds.find? (fun d => s.muteEarly a target d || s.muteLate a target d) = none →
      s.damperEntries a target ds = .ok (ds.map (s.muteEntry a target))) := by
  induction ds with
  | nil => exact ⟨nofun, fun _ => rfl⟩
  | cons d ds ih =>
    obtain ⟨failing, passing⟩ := ih
    rw [State.damperEntries, damperEntry_eq]
    by_cases early : s.muteEarly a target d = true
    · simp [early]
    · by_cases late : s.muteLate a target d = true
      · rw [if_neg early, if_pos late, List.find?_cons_of_pos (by simp [late])]
        refine ⟨fun d' same => ?_, nofun⟩
        rw [← Option.some.inj same, if_neg early]
      · rw [if_neg early, if_neg late, List.find?_cons_of_neg (by simp [early, late])]
        refine ⟨fun d' found => ?_, fun none => ?_⟩
        · simp only [failing d' found]
        · simp only [passing none]
          rfl

theorem insertAll_dampers {es : List Entry} (h : ∀ x ∈ es, x.isStrike = false) (q : Sch) : q.insertAll es =
    { q with
      entries := es.foldl (fun l x => insertEntry x l) q.entries
      damperAccepted := q.damperAccepted + BitVec.ofNat 32 es.length } := by
  obtain ⟨strikes, dampers⟩ := counts_of_dampers h
  rw [Sch.insertAll, strikes, dampers, show q.accepted + asCount 0 = q.accepted from BitVec.add_zero _]
  rfl

/-- Settles O17: the first damper that fails, or every damper's entry. -/
theorem mutesInsertTheirDampers : Obligations.MutesInsertTheirDampers := by
  intro s e selector action target awake hears run clocked heard chosen a at_ margin setup early late entry inserted
    refused was mute frame failing some
  have parts : heard.mdc = s.mdc ∧ heard.scu = s.scu ∧ heard.tbs = s.tbs ∧ heard.sch = s.sch := by simp [heard]
  obtain ⟨mode, clock, tables, schedule⟩ := parts
  have opened : heard.requestOpen = .ok () := requestOpen_ok (by rwa [mode]) (by rwa [clock])
  have record (d : Fin 4) : heard.damperRecord d = s.damperRecord d := by rw [State.damperRecord, tables]; rfl
  have node : heard.node = s.node := congrArg Tbs.node tables
  have now : heard.now = s.now := congrArg Scu.now clock
  have selects : heard.selectDampers (readSelector selector) = chosen := by
    rw [selectDampers_eq]
    simp only [record]
    rfl
  have acts : readAction action = a := rfl
  have travels (d : Fin 4) : target - BitVec.ofNat 32 ((heard.damperRecord d).travelTime a) = at_ d := by
    simp only [record, at_, a]
    split <;> rfl
  have margins (d : Fin 4) : heard.muteMargin a target d = margin d := by
    rw [State.muteMargin, travels, now]
  have earlies (d : Fin 4) : heard.muteEarly a target d = early d := by rw [State.muteEarly, margins]
  have lates (d : Fin 4) : heard.muteLate a target d = late d := by rw [State.muteLate, margins, node]
  have entries : heard.muteEntry a target = entry := by
    funext d
    simp only [State.muteEntry, travels, now, node]
    rfl
  have selected : heard.selectDampers (readSelector selector) ≠ [] := by rw [selects]; exact some
  obtain ⟨fails, passes⟩ := damperEntries_eq a target heard chosen
  simp only [earlies, lates, entries] at fails passes
  have taken : mute = .next ((heard.takeMute selector action target).forwardCopy frame false) :=
    exec_heard rfl awake hears
  have refuses {d : Fin 4} (first : failing = .some d) : mute = .next
      ((refused (was.add (if early d = true then .tooEarly else .late))).forwardCopy frame false) := by
    refine exec_mute_refused awake hears (r := if early d = true then .tooEarly else .late) ?_ ?_
    · exact decideMute_failed opened selected (by rw [selects, acts]; exact fails d first)
    · split <;> decide
  have places : heard.sch.free < (chosen.map entry).length ↔ 256 < s.sch.entries.length + chosen.length := by
    rw [List.length_map, free_lt_iff (List.length_pos_iff.2 some), schedule]
  refine ⟨fun d first => ⟨fun isEarly => ?_, fun onTime isLate => ?_⟩, fun none room => ?_, fun none full => ?_⟩
  · have answer := refuses first
    rwa [if_pos isEarly] at answer
  · have answer := refuses first
    rwa [if_neg (by simp [onTime])] at answer
  · have fits : ¬heard.sch.free < (chosen.map entry).length := mt places.1 (Nat.not_lt.2 room)
    have decision : heard.decideMute (readSelector selector) (readAction action) target = .ok (chosen.map entry) :=
      (decideMute_passed opened selected (by rw [selects, acts]; exact passes none)).trans (if_neg fits)
    have dampers : ∀ x ∈ chosen.map entry, x.isStrike = false := by
      intro x mem
      obtain ⟨d, -, rfl⟩ := List.mem_map.1 mem
      rfl
    have inserts : heard.onSch (Sch.insertAll (chosen.map entry)) = inserted := by
      rw [State.onSch, insertAll_dampers dampers, List.foldl_map, List.length_map, schedule]
      simp only [inserted, schedule]
    have due : inserted.after .due = inserted.takeDue := by
      have reset : s.resetting = .none := awake
      exact after_event (fun _ => rfl) (show heard.resetting = .none by simp [heard, reset])
    rw [taken, State.takeMute, decision, due, ← inserts]
  · have decision : heard.decideMute (readSelector selector) (readAction action) target = .error .full :=
      (decideMute_passed opened selected (by rw [selects, acts]; exact passes none)).trans (if_pos (places.2 full))
    rw [taken, takeMute_error decision]
    rfl

end Sys2Proof.Machine
end

section
/-! SUPPORT. The passage of time: which events have fallen, and that the others change nothing (R101, R159). -/
namespace Sys2Proof.Machine

variable {s : State}

/-! ### Events of the show clock -/

/-- A show time that the show clock has reached. -/
def State.came (s : State) (t : Option ShowTime) : Bool :=
  match t with
  | none => false
  | some t => decide (signedDiff t s.now ≤ 0)

/-- A local time that has come. -/
def State.past (s : State) (t : Option Nat) : Bool :=
  match t with
  | none => false
  | some t => decide (t ≤ s.localTime)

/-- The event of the show clock that a command is, if its show time is reached. -/
def State.ofShowTime (s : State) (c : Instr) : Bool :=
  match c with
  | .due => s.came (s.sch.entries.head?.map Entry.action)
  | .driveEnd n => s.came ((s.channel n).drive.map fun d => d.start + BitVec.ofNat 32 d.width)
  | .recoveryEnd n => s.came (s.channel n).recoveryEnd
  | .busyUntilLapse n => s.came (s.channel n).busyUntil
  | .impactWindowEnd n =>
    (match (s.channel n).window with
     | none => false
     | some e => decide (signedDiff (e + BitVec.ofNat 32 (s.strikerRecord n).impactWindow) s.now < 0))
  | .travelEnd d => s.came (s.damper d).travelEnd
  | .chokeHoldExpiry d => s.came (s.damper d).hold
  | .stepRisingEdge => !s.rot.output && s.came (s.rot.cycle.map StepCycle.nextChange)
  | .stepFallingEdge => s.rot.output && s.came (s.rot.cycle.map StepCycle.nextChange)
  | .alignTakesEffect => s.came s.rot.align
  | .swapTimeReached => s.came s.tbs.pendingSwap
  | _ => false

theorem ofShowTime_command (e : ShowEvent) (s : State) : s.ofShowTime e.command = s.fallen e := by
  cases e with
  | due =>
    show s.came _ = s.headReached
    unfold State.headReached
    cases s.sch.entries <;> rfl
  | driveEnd n =>
    show s.came _ = s.driveEndReached n
    unfold State.driveEndReached
    cases (s.channel n).drive <;> rfl
  | risingEdge =>
    show (!s.rot.output && s.came _) = s.risingReached
    unfold State.risingReached
    cases s.rot.cycle
    · exact Bool.and_false _
    · rfl
  | fallingEdge =>
    show (s.rot.output && s.came _) = s.fallingReached
    unfold State.fallingReached
    cases s.rot.cycle
    · exact Bool.and_false _
    · rfl
  | recoveryEnd n | busyUntilLapse n | impactWindowEnd n | travelEnd d | chokeHoldExpiry d | align | swap => rfl

theorem mem_showEvents (e : ShowEvent) : e ∈ showEvents := by
  cases e <;> simp [showEvents, allStrikers, allDampers]

/-- A command that counts as an event of the show clock is the command of one. -/
theorem command_of_ofShowTime {c : Instr} (h : s.ofShowTime c = true) : ∃ e : ShowEvent, e.command = c := by
  cases c with
  | due => exact ⟨.due, rfl⟩
  | driveEnd n => exact ⟨.driveEnd n, rfl⟩
  | recoveryEnd n => exact ⟨.recoveryEnd n, rfl⟩
  | busyUntilLapse n => exact ⟨.busyUntilLapse n, rfl⟩
  | impactWindowEnd n => exact ⟨.impactWindowEnd n, rfl⟩
  | travelEnd d => exact ⟨.travelEnd d, rfl⟩
  | chokeHoldExpiry d => exact ⟨.chokeHoldExpiry d, rfl⟩
  | stepRisingEdge => exact ⟨.risingEdge, rfl⟩
  | stepFallingEdge => exact ⟨.fallingEdge, rfl⟩
  | alignTakesEffect => exact ⟨.align, rfl⟩
  | swapTimeReached => exact ⟨.swap, rfl⟩
  | _ => exact absurd h Bool.false_ne_true

theorem mem_fallenShow_iff (c : Instr) (s : State) :
    c ∈ s.fallenShow.map ShowEvent.command ↔ s.ofShowTime c = true := by
  simp only [List.mem_map, State.fallenShow, List.mem_filter]
  constructor
  · rintro ⟨e, ⟨-, fallen⟩, rfl⟩
    exact (ofShowTime_command e s).trans fallen
  · intro h
    obtain ⟨e, rfl⟩ := command_of_ofShowTime h
    exact ⟨e, ⟨mem_showEvents e, (ofShowTime_command e s).symm.trans h⟩, rfl⟩

/-- An event of the show clock that has not fallen changes nothing (log entry 2). -/
theorem take_of_not_fallen {e : ShowEvent} (h : s.fallen e = false) : s.take e = s := by
  have waits {b : Bool} {t : State} (hb : b = false) : (if b = true then t else s) = s := if_neg (by simp [hb])
  cases e with
  | due =>
    have h : s.headReached = false := h
    show s.takeDue = s
    unfold State.headReached at h
    cases entries : s.sch.entries with
    | nil => exact takeDue_nil entries
    | cons x rest =>
      rw [entries] at h
      exact takeDue_early entries (Int.not_le.1 (mt (reached_iff _ _).2 (Bool.eq_false_iff.1 h)))
  | driveEnd n | recoveryEnd n | busyUntilLapse n | impactWindowEnd n | align | swap => exact waits h
  | travelEnd d =>
    have h : s.travelEndReached d = false := h
    show s.takeTravelEnd d = s
    unfold State.takeTravelEnd
    unfold State.travelEndReached at h
    cases travel : (s.damper d).travelEnd with
    | none => rfl
    | some t =>
      rw [travel] at h
      exact waits h
  | chokeHoldExpiry d =>
    have h : s.holdExpiryReached d = false := h
    show s.takeHoldExpiry d = s
    unfold State.takeHoldExpiry
    unfold State.holdExpiryReached at h
    cases hold : (s.damper d).hold with
    | none => rfl
    | some t =>
      rw [hold] at h
      exact waits h
  | risingEdge =>
    show s.takeRisingEdge = s
    unfold State.takeRisingEdge
    cases s.rot.cycle with
    | none => rfl
    | some c => exact waits h
  | fallingEdge =>
    show s.takeFallingEdge = s
    unfold State.takeFallingEdge
    cases s.rot.cycle with
    | none => rfl
    | some c => exact waits h

theorem exec_command (awake : s.Awake) (e : ShowEvent) : exec e.command s = .next (s.take e) := by
  cases e <;> exact running_awake awake _

/-! ### Events of the oscillator -/

/-- The event of local time that a command is, if its time has come. -/
def State.ofLocalTime (s : State) (c : Instr) : Bool :=
  match c with
  | .coolingTick => decide (s.stc.coolingNext ≤ s.localTime)
  | .rampTick => decide (s.rot.rampNext ≤ s.localTime)
  | .supervisionDeadline =>
    decide (s.scu.sync = .locked) && s.past (s.scu.lastMark.map fun t => t + 16 * (2 * s.node.markPeriod))
  | .holdoverExpiry =>
    decide (s.scu.sync = .holdover) && s.past (s.scu.holdoverStart.map fun t => t + 16 * s.node.holdoverLimit)
  | .configTimeout => decide (s.mdc.mode = .config) && s.past s.mdc.timer
  | .probeSend =>
    (match s.pdu.probeDue with
     | .window t =>
       decide
         (s.localTime ≤ t ∧ s.liu.sendingDown = none ∧ s.liu.forward = [] ∧ s.pdu.outstanding = none ∧
           s.node.chainEnd = false)
     | _ => false)
  | .probeWindowExpiry => (match s.pdu.probeDue with | .window t => decide (t < s.localTime) | _ => false)
  | .probeTimeout =>
    (match s.pdu.outstanding with
     | none => false
     | some o => s.past (o.sentAt.map fun t => t + 256 * 16))
  | .driverFaultFilterExpiry g =>
    decide (s.svu.driverInput[g] ≠ s.svu.driverFault[g] ∧ s.svu.driverChanged[g] + 5 * 16 ≤ s.localTime)
  | .supplyFilterExpiry => s.past (s.sup.candidate.map fun c => c.start + 16 * (100 * s.node.filterTime))
  | .lampBlinkPhase => decide (s.svu.lampOn ≠ s.svu.lamp.level s.localTime)
  | _ => false

/-- The events of local time, each with whether it has fallen. -/
def State.localEvents (s : State) : List (Bool × Instr) :=
  [(s.coolingReached, .coolingTick), (s.rampReached, .rampTick),
   (s.supervisionReached, .supervisionDeadline), (s.holdoverReached, .holdoverExpiry),
   (s.configReached, .configTimeout), (s.probeSendable, .probeSend),
   (s.probeWindowReached, .probeWindowExpiry), (s.probeTimeoutReached, .probeTimeout),
   (s.driverFilterReached 0, .driverFaultFilterExpiry 0),
   (s.driverFilterReached 1, .driverFaultFilterExpiry 1),
   (s.driverFilterReached 2, .driverFaultFilterExpiry 2),
   (s.supplyFilterReached, .supplyFilterExpiry), (s.blinkReached, .lampBlinkPhase)]

theorem past_map_eq (o : Option Nat) (f : Nat → Nat) (s : State) :
    s.past (o.map f) = o.any fun t => decide (f t ≤ s.localTime) := by
  cases o <;> rfl

theorem probeSendable_eq (s : State) : s.ofLocalTime .probeSend = s.probeSendable := by
  simp only [State.ofLocalTime, State.probeSendable]
  cases s.pdu.probeDue with
  | window t =>
    rw [Bool.eq_iff_iff]
    simp [and_assoc]
  | none | afterMark => rfl

theorem probeTimeout_eq (s : State) : s.ofLocalTime .probeTimeout = s.probeTimeoutReached := by
  simp only [State.ofLocalTime, State.probeTimeoutReached]
  cases s.pdu.outstanding with
  | none => rfl
  | some o =>
    obtain ⟨number, sentAt⟩ := o
    cases sentAt <;> rfl

theorem driverFilter_eq (g : Fin 3) (s : State) :
    s.ofLocalTime (.driverFaultFilterExpiry g) = s.driverFilterReached g := by
  rw [Bool.eq_iff_iff, driverFilterReached_iff]
  exact decide_eq_true_iff

/-- Each event of local time has fallen just when its time has come. -/
theorem ofLocalTime_localEvents (s : State) : ∀ x ∈ s.localEvents, s.ofLocalTime x.2 = x.1 := by
  have supervision : s.ofLocalTime .supervisionDeadline = s.supervisionReached := by
    rw [Bool.eq_iff_iff, supervisionReached_iff]
    simp [State.ofLocalTime, past_map_eq, Option.any_eq_true]
  have holdover : s.ofLocalTime .holdoverExpiry = s.holdoverReached := by
    rw [Bool.eq_iff_iff, holdoverReached_iff]
    simp [State.ofLocalTime, past_map_eq, Option.any_eq_true]
  have config : s.ofLocalTime .configTimeout = s.configReached := by
    rw [Bool.eq_iff_iff, configReached_iff]
    have timer : s.past s.mdc.timer = s.mdc.timer.any fun t => decide (t ≤ s.localTime) := by
      cases s.mdc.timer <;> rfl
    simp [State.ofLocalTime, timer, Option.any_eq_true]
  have window : s.ofLocalTime .probeWindowExpiry = s.probeWindowReached := by
    simp only [State.ofLocalTime, State.probeWindowReached]
    cases s.pdu.probeDue <;> rfl
  have supply : s.ofLocalTime .supplyFilterExpiry = s.supplyFilterReached := by
    simp only [State.ofLocalTime, State.supplyFilterReached]
    cases s.sup.candidate <;> rfl
  have blink : s.ofLocalTime .lampBlinkPhase = s.blinkReached := by
    rw [Bool.eq_iff_iff]
    simp [State.ofLocalTime, State.blinkReached]
  simp only [State.localEvents, List.forall_mem_cons]
  exact ⟨rfl, rfl, supervision, holdover, config, probeSendable_eq s, window, probeTimeout_eq s, driverFilter_eq 0 s,
    driverFilter_eq 1 s, driverFilter_eq 2 s, supply, blink, fun _ none => absurd none List.not_mem_nil⟩

theorem listed_of_ofLocalTime {c : Instr} (h : s.ofLocalTime c = true) : ∃ b, (b, c) ∈ s.localEvents := by
  cases c with
  | coolingTick | rampTick | supervisionDeadline | holdoverExpiry | configTimeout | probeSend | probeWindowExpiry
  | probeTimeout | supplyFilterExpiry | lampBlinkPhase => exact ⟨_, by simp [State.localEvents]; rfl⟩
  | driverFaultFilterExpiry g => fin_cases g <;> exact ⟨_, by simp [State.localEvents]; rfl⟩
  | _ => exact absurd h Bool.false_ne_true

theorem mem_fallenLocal_iff (c : Instr) (s : State) : c ∈ s.fallenLocal ↔ s.ofLocalTime c = true := by
  rw [show s.fallenLocal = s.localEvents.filterMap fun e => if e.1 then some e.2 else none from rfl, List.mem_filterMap]
  constructor
  · rintro ⟨⟨b, c'⟩, mem, taken⟩
    cases b with
    | false => exact absurd taken nofun
    | true =>
      cases taken
      exact ofLocalTime_localEvents s _ mem
  · intro h
    obtain ⟨b, mem⟩ := listed_of_ofLocalTime h
    have fallen : b = true := (ofLocalTime_localEvents s _ mem).symm.trans h
    exact ⟨(b, c), mem, by rw [fallen]; rfl⟩

/-- An event of local time that has not fallen changes nothing (log entry 2). -/
theorem exec_of_not_ofLocalTime (awake : s.Awake) {x : Bool × Instr} (mem : x ∈ s.localEvents)
    (h : s.ofLocalTime x.2 = false) : exec x.2 s = .next s := by
  have waits {b : Bool} {t : State} (hb : b = false) : (if b = true then t else s) = s := if_neg (by simp [hb])
  have not_fallen : x.1 = false := (ofLocalTime_localEvents s x mem).symm.trans h
  have filter (g : Fin 3) (h : s.driverFilterReached g = false) : exec (.driverFaultFilterExpiry g) s = .next s :=
    (running_awake awake (State.takeDriverFilter g)).trans (congrArg _ (waits h))
  have supply (h : s.supplyFilterReached = false) : exec .supplyFilterExpiry s = .next s := by
    refine (running_awake awake State.takeSupplyFilter).trans (congrArg _ ?_)
    unfold State.takeSupplyFilter
    cases s.sup.candidate with
    | none => rfl
    | some c => exact waits h
  revert not_fallen
  revert x
  simp only [State.localEvents, List.forall_mem_cons]
  refine ⟨fun _ h => ?_, fun _ h => ?_, fun _ h => ?_, fun _ h => ?_, fun _ h => ?_, fun _ h => ?_, fun _ h => ?_,
    fun _ h => ?_, fun _ h => filter 0 h, fun _ h => filter 1 h, fun _ h => filter 2 h, fun _ h => supply h,
    fun _ h => ?_, fun _ none => absurd none List.not_mem_nil⟩
  all_goals exact (running_awake awake _).trans (congrArg _ (waits h))

/-! ### Steps with an empty queue (R101) -/

theorem fallenEvents_awake (awake : s.Awake) : s.fallenEvents = s.fallenShow.map ShowEvent.command ++ s.fallenLocal :=
  if_neg (by simp [show s.resetting = none from awake])

theorem mem_fallenEvents_iff (awake : s.Awake) (c : Instr) :
    c ∈ s.fallenEvents ↔ s.ofShowTime c = true ∨ s.ofLocalTime c = true := by
  rw [fallenEvents_awake awake, List.mem_append, mem_fallenShow_iff, mem_fallenLocal_iff]

/-- The commands that are events of the block, of either clock. -/
def ofTheBlock (c : Instr) : Bool :=
  match c with
  | .due | .driveEnd _ | .recoveryEnd _ | .busyUntilLapse _ | .impactWindowEnd _ | .travelEnd _
  | .chokeHoldExpiry _ | .stepRisingEdge | .stepFallingEdge | .alignTakesEffect | .swapTimeReached
  | .coolingTick | .rampTick | .supervisionDeadline | .holdoverExpiry | .configTimeout | .probeSend
  | .probeWindowExpiry | .probeTimeout | .driverFaultFilterExpiry _ | .supplyFilterExpiry
  | .lampBlinkPhase => true
  | _ => false

theorem event_of_ofTheBlock {c : Instr} (h : ofTheBlock c = true) (s : State) :
    (∃ e : ShowEvent, e.command = c) ∨ ∃ b, (b, c) ∈ s.localEvents := by
  cases c with
  | due => exact .inl ⟨.due, rfl⟩
  | driveEnd n => exact .inl ⟨.driveEnd n, rfl⟩
  | recoveryEnd n => exact .inl ⟨.recoveryEnd n, rfl⟩
  | busyUntilLapse n => exact .inl ⟨.busyUntilLapse n, rfl⟩
  | impactWindowEnd n => exact .inl ⟨.impactWindowEnd n, rfl⟩
  | travelEnd d => exact .inl ⟨.travelEnd d, rfl⟩
  | chokeHoldExpiry d => exact .inl ⟨.chokeHoldExpiry d, rfl⟩
  | stepRisingEdge => exact .inl ⟨.risingEdge, rfl⟩
  | stepFallingEdge => exact .inl ⟨.fallingEdge, rfl⟩
  | alignTakesEffect => exact .inl ⟨.align, rfl⟩
  | swapTimeReached => exact .inl ⟨.swap, rfl⟩
  | coolingTick | rampTick | supervisionDeadline | holdoverExpiry | configTimeout | probeSend | probeWindowExpiry
  | probeTimeout | supplyFilterExpiry | lampBlinkPhase => exact .inr ⟨_, by simp [State.localEvents]; rfl⟩
  | driverFaultFilterExpiry g => fin_cases g <;> exact .inr ⟨_, by simp [State.localEvents]; rfl⟩
  | _ => exact absurd h Bool.false_ne_true

/-- With nothing fallen, an event command of the block changes nothing (log entry 2). -/
theorem exec_of_nothing_fallen (awake : s.Awake) (none : s.fallenEvents = []) {c : Instr} (h : ofTheBlock c = true) :
    exec c s = .next s := by
  have not_fallen : ¬(s.ofShowTime c = true ∨ s.ofLocalTime c = true) := by
    rw [← mem_fallenEvents_iff awake, none]
    exact List.not_mem_nil
  obtain ⟨notShow, notLocal⟩ := not_or.1 not_fallen
  rcases event_of_ofTheBlock h s with ⟨e, rfl⟩ | ⟨b, mem⟩
  · have waits : s.fallen e = false := (ofShowTime_command e s).symm.trans (Bool.eq_false_iff.2 notShow)
    rw [exec_command awake, take_of_not_fallen waits]
  · exact exec_of_not_ofLocalTime awake mem (Bool.eq_false_iff.2 notLocal)

/-- An idle step takes the block's own command, or lets a fine unit pass. -/
theorem step_idle (idle : s.pending = []) : step s =
    (s.ownCommand.map fun c => exec c s.chosen).getD (.next s.passFineUnit) := by
  simp only [step, idle]
  cases s.ownCommand <;> rfl

theorem ownCommand_fallen (h : s.fallenEvents ≠ []) : s.ownCommand = s.pick s.fallenEvents :=
  if_neg (by simpa using h)

theorem ownCommand_quiet (h : s.fallenEvents = []) :
    s.ownCommand = if (s.slewNext && s.resetting.isNone) = true then some .slewGrain else none :=
  if_pos (by simp [h])

theorem slewNext_iff (s : State) : s.slewNext = true ↔
    (s.localTime + 1) % 16 = 0 ∧ s.scu.slew ≠ 0 ∧ (s.scu.slewCount + 1) % 16 = 0 := by
  have grain : s.grainNext = true ↔ (s.localTime + 1) % 16 = 0 := by simp [State.grainNext, Config.finePerGrain]
  simp [State.slewNext, grain, and_assoc]

/-- A fine unit passes, and with it a grain of the show clock where it ends one outside a reset (R101). -/
theorem passFineUnit_eq (s : State) : s.passFineUnit =
    if (s.localTime + 1) % 16 = 0 ∧ s.Awake then
      { s with
        localTime := s.localTime + 1
        scu :=
          { s.scu with
            now := s.scu.now + 1
            slewCount := if s.scu.slew = 0 then s.scu.slewCount else s.scu.slewCount + 1 } }
    else { s with localTime := s.localTime + 1 } := by
  have ends : (s.grainNext && s.resetting.isNone) = true ↔ (s.localTime + 1) % 16 = 0 ∧ s.Awake := by
    simp [State.grainNext, Config.finePerGrain, State.Awake]
  simp only [State.passFineUnit, State.onScu, Scu.grain, ends]

/-- Settles O2: the idle step by `ownCommand`, and the fallen events one by one. -/
theorem idleStepTakesAnEventOrLetsTimePass : Obligations.IdleStepTakesAnEventOrLetsTimePass := by
  refine ⟨fun s idle => ⟨fun some => ?_, fun none awake slews => ?_, fun none awake still grain => ?_,
    fun none waits => ?_⟩, fun s => ?_⟩
  · rw [step_idle idle, ownCommand_fallen some]
    cases picked : s.pick s.fallenEvents with
    | none => exact absurd (pick_none.1 picked) some
    | some c => exact ⟨c, pick_mem picked, rfl⟩
  · have reset : s.resetting = .none := awake
    rw [step_idle idle, ownCommand_quiet none, if_pos (by simp [slews, reset])]
    rfl
  · rw [step_idle idle, ownCommand_quiet none, still]
    refine congrArg Host.Outcome.next ?_
    rw [passFineUnit_eq, if_pos ⟨grain, awake⟩]
  · have no_slew : ¬(s.slewNext && s.resetting.isNone) = true := by
      rw [Bool.and_eq_true, slewNext_iff, Option.isNone_iff_eq_none]
      rintro ⟨⟨grain, -⟩, awake⟩
      exact waits.elim (fun asleep => asleep awake) fun inside => inside grain
    rw [step_idle idle, ownCommand_quiet none, if_neg no_slew]
    refine congrArg Host.Outcome.next ?_
    rw [passFineUnit_eq, if_neg]
    rintro ⟨grain, awake⟩
    exact waits.elim (fun asleep => asleep awake) fun inside => inside grain
  · intro came past level ofShowTime ofLocalTime isOfTheBlock
    have shows (c : Instr) : s.ofShowTime c = ofShowTime c := by cases c <;> rfl
    have lamp : s.svu.lamp.level s.localTime = level := by
      simp only [level]
      cases s.svu.lamp <;> rfl
    have locals (c : Instr) : s.ofLocalTime c = ofLocalTime c := by
      cases c with
      | lampBlinkPhase => exact congrArg (fun l => decide (s.svu.lampOn ≠ l)) lamp
      | _ => rfl
    have block (c : Instr) : Machine.ofTheBlock c = isOfTheBlock c := by cases c <;> rfl
    refine ⟨slewNext_iff s, fun c => ⟨?_, fun awake => ?_, fun awake none isEvent => ?_⟩, fun e resetting => ?_⟩
    · rw [mem_fallenShow_iff, shows]
    · rw [mem_fallenEvents_iff awake, shows, locals]
    · exact exec_of_nothing_fallen awake none ((block c).trans isEvent)
    · have tail : s.resetTailReached = past e.endsAt := by
        unfold State.resetTailReached
        rw [resetting]
        obtain ⟨cause, endsAt⟩ := e
        cases endsAt <;> rfl
      rw [State.fallenEvents, if_pos (by rw [resetting]; rfl), tail]

end Sys2Proof.Machine
end

section
/-! SUPPORT. Frames: what a receiver takes as good, and that each command is read back from its frame (R120, R122). -/
namespace Sys2Proof.Machine

/-! ### Words and their bytes -/

theorem word2_bytes (w : Half) : word2 (w.extractLsb' 8 8) (w.extractLsb' 0 8) = w := half_of_bytes w

theorem word3_bytes (w : BitVec 24) : word3 (w.extractLsb' 16 8) (w.extractLsb' 8 8) (w.extractLsb' 0 8) = w :=
  word24_of_bytes w

theorem word4_bytes (w : BitVec 32) :
    word4 (w.extractLsb' 24 8) (w.extractLsb' 16 8) (w.extractLsb' 8 8) (w.extractLsb' 0 8) = w := by
  have high : w.extractLsb' 24 8 ++ w.extractLsb' 16 8 = w.extractLsb' 16 16 :=
    BitVec.extractLsb'_append_extractLsb'_eq_extractLsb' rfl
  have upper : w.extractLsb' 16 16 ++ w.extractLsb' 8 8 = w.extractLsb' 8 24 :=
    BitVec.extractLsb'_append_extractLsb'_eq_extractLsb' rfl
  have all : w.extractLsb' 8 24 ++ w.extractLsb' 0 8 = w.extractLsb' 0 32 :=
    BitVec.extractLsb'_append_extractLsb'_eq_extractLsb' rfl
  rw [word4, high, upper]
  exact all.trans (by simp)

theorem extract_eq_ofNat {w : Nat} (x : BitVec w) (k : Nat) :
    x.extractLsb' k 8 = BitVec.ofNat 8 (x.toNat / 2 ^ k) := by
  rw [BitVec.extractLsb', Nat.shiftRight_eq_div_pow]

theorem bytes3_eq (w : BitVec 24) :
    bytes3 w = [BitVec.ofNat 8 (w.toNat / 65536), BitVec.ofNat 8 (w.toNat / 256), BitVec.ofNat 8 w.toNat] := by
  simp only [bytes3, extract_eq_ofNat, Nat.pow_zero, Nat.div_one]
  rfl

/-! ### Good frames (R120, R174) -/

theorem receive_wire (port : Port) {f : Frame} (h : f.payload.length ≤ 240) :
    receive port true f.wire = Frame.read port f := by
  have length : (byteOf f.payload.length).toNat = f.payload.length := by
    rw [byteOf, BitVec.toNat_ofNat]
    omega
  have taken : ((f.payload ++ bytes2 (crc16 (f.kind :: byteOf f.payload.length :: f.payload))).take
      (byteOf f.payload.length).toNat) = f.payload := by
    rw [length, List.take_left]
  have wire : f.wire = f.kind :: byteOf f.payload.length ::
      (f.payload ++ bytes2 (crc16 (f.kind :: byteOf f.payload.length :: f.payload))) := rfl
  rw [wire]
  simp only [receive, taken]
  exact if_pos ⟨trivial, by rw [length]; exact h, trivial, length.symm⟩

/-- A run of bytes that is not bad is the envelope of a frame. -/
theorem wire_of_receive {port : Port} {closed : Bool} {bytes : List Byte}
    (h : receive port closed bytes ≠ .badFrame port) :
    closed = true ∧ ∃ f : Frame, f.payload.length ≤ 240 ∧ bytes = f.wire := by
  unfold receive at h
  split at h
  · rename_i kind len rest
    simp only [] at h
    split at h
    · rename_i good
      obtain ⟨ends, small, envelope, length⟩ := good
      refine ⟨ends, ⟨kind, rest.take len.toNat⟩, by rw [length]; exact small, ?_⟩
      have same : byteOf (rest.take len.toNat).length = len := by
        rw [length, byteOf, BitVec.ofNat_toNat, BitVec.setWidth_eq]
      rw [Frame.wire, same]
      exact congrArg (fun r => kind :: len :: r) envelope
    · exact absurd rfl h
  · exact absurd rfl h

/-! ### The commands of the forward lane (R122, R175) -/

/-- A payload that is read under a forward-lane kind has the kind's length, and is no bad frame. -/
def Fits (kind : Byte) (payload : List Byte) (read : Option Instr) : Prop :=
  ∀ c, read = some c → lengthFits kind payload = true ∧ ∀ port, c ≠ .badFrame port

theorem fits_none (kind : Byte) (payload : List Byte) : Fits kind payload none := nofun

theorem fits_some {kind : Byte} {payload : List Byte} {c : Instr} (fits : lengthFits kind payload = true)
    (good : ∀ port, c ≠ .badFrame port) : Fits kind payload (some c) := by
  intro c' h
  cases h
  exact ⟨fits, good⟩

theorem fits_ite {kind : Byte} {payload : List Byte} {p : Prop} [Decidable p] {a b : Option Instr}
    (ha : p → Fits kind payload a) (hb : ¬p → Fits kind payload b) : Fits kind payload (if p then a else b) := by
  split
  · rename_i h; exact ha h
  · rename_i h; exact hb h

theorem asMark_fits (p : List Byte) : Fits Kind.mark p (Frame.asMark p) := by
  unfold Frame.asMark
  split
  · exact fits_some rfl nofun
  · exact fits_none _ _

theorem asPlay_fits (p : List Byte) : Fits Kind.play p (Frame.asPlay p) := by
  unfold Frame.asPlay
  split
  · exact fits_some rfl nofun
  · exact fits_some rfl nofun
  · exact fits_none _ _

theorem asMute_fits (p : List Byte) : Fits Kind.mute p (Frame.asMute p) := by
  unfold Frame.asMute
  split
  · exact fits_some rfl nofun
  · exact fits_none _ _

theorem asSet_fits (p : List Byte) : Fits Kind.set p (Frame.asSet p) := by
  unfold Frame.asSet
  split
  · exact fits_ite (fun h => h ▸ fits_some rfl nofun) fun _ => fits_none _ _
  · exact fits_ite (fun h => h ▸ fits_some rfl nofun) fun _ =>
      fits_ite (fun h => h ▸ fits_some rfl nofun) fun _ => fits_none _ _
  · exact fits_ite (fun h => h ▸ fits_some rfl nofun) fun _ => fits_none _ _
  · exact fits_none _ _

theorem asFlush_fits (p : List Byte) : Fits Kind.flush p (Frame.asFlush p) := by
  unfold Frame.asFlush
  split
  · exact fits_ite (fun h => h ▸ fits_some rfl nofun) fun _ => fits_none _ _
  · exact fits_ite (fun h => h ▸ fits_some rfl nofun) fun _ => fits_none _ _
  · exact fits_none _ _

theorem asBankswap_fits (p : List Byte) : Fits Kind.bankswap p (Frame.asBankswap p) := by
  unfold Frame.asBankswap
  split
  · exact fits_some rfl nofun
  · exact fits_none _ _

theorem asLoadOpen_fits (p : List Byte) : Fits Kind.loadOpen p (Frame.asLoadOpen p) := by
  unfold Frame.asLoadOpen
  split
  · exact fits_some rfl nofun
  · exact fits_none _ _

theorem asLoadData_fits (p : List Byte) : Fits Kind.loadData p (Frame.asLoadData p) := by
  unfold Frame.asLoadData
  split
  · rename_i p n b bs
    exact fits_some (decide_eq_true (Nat.le_add_left 3 bs.length)) nofun
  · exact fits_none _ _

theorem asCommit_fits (p : List Byte) : Fits Kind.commit p (Frame.asCommit p) := by
  unfold Frame.asCommit
  split
  · exact fits_some rfl nofun
  · exact fits_none _ _

/-- An ASK of length 2 has a subject without parameters. -/
theorem askSubject_fits (p subject : Byte) : Fits Kind.ask [p, subject] (Frame.askSubject p subject) := by
  have fits (h : subject.toNat ≠ 3 ∧ subject.toNat ≠ 9) : lengthFits Kind.ask [p, subject] = true := by
    have three : subject ≠ 3 := fun same => h.1 (by rw [same]; rfl)
    have nine : subject ≠ 9 := fun same => h.2 (by rw [same]; rfl)
    have passed : ((true && subject != 3) && subject != 9) = true := by
      rw [Bool.and_eq_true, Bool.and_eq_true, bne_iff_ne, bne_iff_ne]
      exact ⟨⟨rfl, three⟩, nine⟩
    show ((((true && subject != 3) && subject != 9) || _) || _) = true
    rw [passed]
    rfl
  unfold Frame.askSubject
  split
  all_goals rename_i code
  · exact fits_some (fits (by omega)) nofun
  · exact fits_some (fits (by omega)) nofun
  · exact fits_some (fits (by omega)) nofun
  · exact fits_none _ _
  · exact fits_some (fits (by omega)) nofun
  · exact fits_some (fits (by omega)) nofun
  · exact fits_some (fits (by omega)) nofun
  · exact fits_some (fits (by omega)) nofun
  · exact fits_some (fits (by omega)) nofun
  · exact fits_none _ _
  · exact fits_some (fits ⟨by assumption, by assumption⟩) nofun

theorem asAsk_fits (p : List Byte) : Fits Kind.ask p (Frame.asAsk p) := by
  unfold Frame.asAsk
  split
  · exact askSubject_fits _ _
  · exact fits_ite (fun h => h ▸ fits_some rfl nofun) fun _ => fits_none _ _
  · exact fits_ite (fun h => h ▸ fits_some rfl nofun) fun _ => fits_none _ _
  · exact fits_none _ _

theorem asClear_fits (p : List Byte) : Fits Kind.clear p (Frame.asClear p) := by
  unfold Frame.asClear
  split
  · exact fits_ite (fun h => h ▸ fits_some rfl nofun) fun _ =>
      fits_ite (fun h => h ▸ fits_some rfl nofun) fun _ =>
        fits_ite (fun h => h ▸ fits_some rfl nofun) fun _ => fits_none _ _
  · exact fits_ite (fun h => h ▸ fits_some rfl nofun) fun _ => fits_none _ _
  · exact fits_none _ _

/-- A payload of one byte fits the kinds that carry a position alone. -/
theorem asPosition_fits {kind : Byte} {command : Byte → Instr} (fits : ∀ p, lengthFits kind [p] = true)
    (good : ∀ p port, command p ≠ .badFrame port) (p : List Byte) : Fits kind p (Frame.asPosition command p) := by
  unfold Frame.asPosition
  split
  · exact fits_some (fits _) (good _)
  · exact fits_none _ _

theorem asProbe_fits (p : List Byte) : Fits Kind.probe p (Frame.asProbe .probe p) := by
  unfold Frame.asProbe
  split
  · exact fits_some rfl nofun
  · exact fits_none _ _

theorem asForward_fits {kind : Byte} (h : forwardKinds.contains kind = true) (p : List Byte) :
    Fits kind p (Frame.asForward kind p) := by
  have kinds : kind ∈ forwardKinds := by simpa using h
  simp only [forwardKinds, List.mem_cons, List.not_mem_nil, or_false] at kinds
  rcases kinds with rfl | rfl | rfl | rfl | rfl | rfl | rfl | rfl | rfl | rfl | rfl | rfl | rfl | rfl | rfl
  · exact asMark_fits p
  · exact asPlay_fits p
  · exact asMute_fits p
  · exact asSet_fits p
  · exact asFlush_fits p
  · exact asBankswap_fits p
  · exact asLoadOpen_fits p
  · exact asLoadData_fits p
  · exact asCommit_fits p
  · exact asAsk_fits p
  · exact asClear_fits p
  · exact asPosition_fits (fun _ => rfl) (fun _ _ => Instr.noConfusion) p
  · exact asPosition_fits (fun _ => rfl) (fun _ _ => Instr.noConfusion) p
  · exact asPosition_fits (fun _ => rfl) (fun _ _ => Instr.noConfusion) p
  · exact asProbe_fits p

/-- A good frame is never read as a bad one. -/
theorem read_ne_badFrame (port : Port) (f : Frame) (q : Port) : Frame.read port f ≠ .badFrame q := by
  cases port with
  | upstream =>
    show f.readUp ≠ _
    unfold Frame.readUp
    split
    · rename_i forward
      cases read : Frame.asForward f.kind f.payload with
      | none => exact nofun
      | some c => exact (asForward_fits forward f.payload c read).2 q
    · exact nofun
  | downstream =>
    show f.readDown ≠ _
    unfold Frame.readDown Frame.asProbe
    split
    · split <;> exact nofun
    · exact nofun

/-! ### Every command is read back -/

theorem askSubject_above {subject : Byte} (h : 10 ≤ subject.toNat) (p : Byte) :
    Frame.askSubject p subject = some (.askUnknownSubject p subject) := by
  unfold Frame.askSubject
  split <;> first | omega | rfl

theorem read_unknownKind {kind : Byte} (h : forwardKinds.contains kind = false) (payload : List Byte) :
    Frame.read .upstream ⟨kind, payload⟩ = .unknownKindFrame kind payload :=
  if_neg (by rw [h]; exact Bool.false_ne_true)

theorem read_malformed {kind : Byte} {payload : List Byte} (known : forwardKinds.contains kind = true)
    (misfit : lengthFits kind payload = false) :
    Frame.read .upstream ⟨kind, payload⟩ = .malformedFrame kind payload := by
  have unread : Frame.asForward kind payload = none := by
    rw [Option.eq_none_iff_forall_ne_some]
    intro c read
    have fits := (asForward_fits known payload c read).1
    rw [misfit] at fits
    cases fits
  have readUp : Frame.read .upstream ⟨kind, payload⟩ =
    (Frame.asForward kind payload).getD (.malformedFrame kind payload) := if_pos known
  rw [readUp, unread]
  rfl

theorem asProbe_of_length {payload : List Byte} (h : payload.length ≠ 4) (command : Byte → Byte → Half → Instr) :
    Frame.asProbe command payload = none := by
  unfold Frame.asProbe
  split
  · exact absurd rfl h
  · rfl

theorem read_relay {kind : Byte} {payload : List Byte} (h : ¬(kind = Kind.probe ∧ payload.length = 4)) :
    Frame.read .downstream ⟨kind, payload⟩ = .relayFrame kind payload := by
  show Frame.readDown _ = _
  unfold Frame.readDown
  split
  · rename_i probe
    rw [asProbe_of_length fun length => h ⟨probe, length⟩]
    rfl
  · rfl

/-- A command that is a good frame stands for a frame that fits the envelope and is read as the command. -/
theorem read_arrivesAs {c : Instr} {port : Port} {f : Frame} (wf : c.wf = true) (h : arrivesAs c = some (port, f)) :
    f.payload.length ≤ 240 ∧ Frame.read port f = c := by
  cases c <;> cases h
  case mark t h d q =>
    refine ⟨Nat.le_of_ble_eq_true rfl, ?_⟩
    show Instr.mark (word4 _ _ _ _) h (word3 _ _ _) q = _
    rw [word4_bytes, word3_bytes]
  case play e n f a t c =>
    cases c with
    | none => exact ⟨Nat.le_of_ble_eq_true rfl, congrArg (Instr.play e n f a · none) (word4_bytes t)⟩
    | some c =>
      refine ⟨Nat.le_of_ble_eq_true rfl, ?_⟩
      show Instr.play e n f a (word4 _ _ _ _) (some (word2 _ _)) = _
      rw [word4_bytes, word2_bytes]
  case mute e d a t => exact ⟨Nat.le_of_ble_eq_true rfl, congrArg (Instr.mute e d a) (word4_bytes t)⟩
  case setQuietCeiling e v => exact ⟨Nat.le_of_ble_eq_true rfl, congrArg (Instr.setQuietCeiling e) (word2_bytes v)⟩
  case setRotorRate e v => exact ⟨Nat.le_of_ble_eq_true rfl, congrArg (Instr.setRotorRate e) (word2_bytes v)⟩
  case setRotorAlign e t => exact ⟨Nat.le_of_ble_eq_true rfl, congrArg (Instr.setRotorAlign e) (word4_bytes t)⟩
  case flushFromTime e t => exact ⟨Nat.le_of_ble_eq_true rfl, congrArg (Instr.flushFromTime e) (word4_bytes t)⟩
  case bankswap p t d =>
    refine ⟨Nat.le_of_ble_eq_true rfl, ?_⟩
    show Instr.bankswap p (word4 _ _ _ _) (word2 _ _) = _
    rw [word4_bytes, word2_bytes]
  case loadOpen p t i => exact ⟨Nat.le_of_ble_eq_true rfl, congrArg (Instr.loadOpen p t) (word2_bytes i)⟩
  case loadData p n items =>
    have size : 1 ≤ items.length ∧ items.length ≤ 238 := by
      simpa only [Instr.wf, Bool.and_eq_true, decide_eq_true_eq] using wf
    refine ⟨Nat.add_le_add_right size.2 2, ?_⟩
    cases items with
    | nil => exact absurd size.1 (by decide)
    | cons b bs => rfl
  case commit p d => exact ⟨Nat.le_of_ble_eq_true rfl, congrArg (Instr.commit p) (word2_bytes d)⟩
  case askTable p t b i c =>
    exact ⟨Nat.le_of_ble_eq_true rfl, congrArg (Instr.askTable p t b · c) (word2_bytes i)⟩
  case askUnknownSubject p n =>
    refine ⟨Nat.le_of_ble_eq_true rfl, ?_⟩
    show (Frame.askSubject p n).getD _ = _
    rw [askSubject_above (of_decide_eq_true wf)]
    rfl
  case probe o n h => exact ⟨Nat.le_of_ble_eq_true rfl, congrArg (Instr.probe o n) (word2_bytes h)⟩
  case returnedProbe o n h => exact ⟨Nat.le_of_ble_eq_true rfl, congrArg (Instr.returnedProbe o n) (word2_bytes h)⟩
  case unknownKindFrame kind payload =>
    have parts : forwardKinds.contains kind = false ∧ payload.length ≤ 240 := by
      simpa only [Instr.wf, fitsEnvelope, Bool.and_eq_true, Bool.not_eq_true', decide_eq_true_eq] using wf
    exact ⟨parts.2, read_unknownKind parts.1 payload⟩
  case malformedFrame kind payload =>
    have parts : (forwardKinds.contains kind = true ∧ lengthFits kind payload = false) ∧ payload.length ≤ 240 := by
      simpa only [Instr.wf, fitsEnvelope, Bool.and_eq_true, Bool.not_eq_true', decide_eq_true_eq] using wf
    exact ⟨parts.2, read_malformed parts.1.1 parts.1.2⟩
  case relayFrame kind payload =>
    have parts : ¬(kind = Kind.probe ∧ payload.length = 4) ∧ payload.length ≤ 240 := by
      simpa only [Instr.wf, fitsEnvelope, Bool.and_eq_true, Bool.not_eq_true', Bool.eq_false_iff, ne_eq, beq_iff_eq,
        decide_eq_true_eq] using wf
    exact ⟨parts.2, read_relay parts.1⟩
  all_goals exact ⟨Nat.le_of_ble_eq_true rfl, rfl⟩

theorem markFrame_arrives (t : ShowTime) (h : Byte) (d : BitVec 24) (q : Byte) :
    arrivesAs (.mark t h d q) = some (.upstream, ⟨0x01, bytes4 t ++ [h] ++
      [BitVec.ofNat 8 (d.toNat / 65536), BitVec.ofNat 8 (d.toNat / 256), BitVec.ofNat 8 d.toNat] ++ [q]⟩) := by
  rw [← bytes3_eq]
  rfl

/-- Settles O7: a good run of bytes is the wire form of a frame, and each kind's formats are read as they are
written. -/
theorem framesReadBackAsTheirCommands : Obligations.FramesReadBackAsTheirCommands := by
  refine ⟨fun _ => rfl, fun c => ?_, fun _ _ _ _ => rfl, fun _ _ _ _ _ _ => rfl, fun _ _ _ _ => rfl, fun _ => rfl,
    fun _ _ _ => rfl, fun port closed bytes => ⟨?_, fun h => ?_⟩, fun port f => receive_wire port,
    fun c port f wf h => ?_⟩
  · cases c
    case mark t h d q => exact markFrame_arrives t h d q
    case play e n f a t c => cases c <;> exact rfl
    all_goals exact rfl
  · rintro bad ⟨ends, f, small, wire⟩
    rw [ends, wire, receive_wire port small] at bad
    exact read_ne_badFrame port f port bad
  · by_contra good
    exact h (wire_of_receive good)
  · obtain ⟨small, read⟩ := read_arrivesAs wf h
    rw [receive_wire port small, read]

end Sys2Proof.Machine
end

section
/-! SUPPORT. The contents of the answers and the items they are made of (R167 to R170, R177, R178). -/
namespace Sys2Proof.Machine

/-! ### Fields -/

theorem bytes2_eq (w : Half) : bytes2 w = [BitVec.ofNat 8 (w.toNat / 256), BitVec.ofNat 8 w.toNat] := by
  simp only [bytes2, extract_eq_ofNat, Nat.pow_zero, Nat.div_one]
  rfl

theorem bytes4_eq (w : BitVec 32) : bytes4 w = [BitVec.ofNat 8 (w.toNat / 16777216),
    BitVec.ofNat 8 (w.toNat / 65536), BitVec.ofNat 8 (w.toNat / 256), BitVec.ofNat 8 w.toNat] := by
  simp only [bytes4, extract_eq_ofNat, Nat.pow_zero, Nat.div_one]
  rfl

theorem nat3_eq (n : Nat) :
    nat3 n = [BitVec.ofNat 8 (n / 65536), BitVec.ofNat 8 (n / 256), BitVec.ofNat 8 n] := by
  have byte_mod (k : Nat) (h : k * 256 ∣ 2 ^ 24) :
      BitVec.ofNat 8 (n % 2 ^ 24 / k) = BitVec.ofNat 8 (n / k) := by
    apply BitVec.eq_of_toNat_eq
    rw [BitVec.toNat_ofNat, BitVec.toNat_ofNat, ← Nat.mod_mul_right_div_self, Nat.mod_mod_of_dvd n h,
      Nat.mod_mul_right_div_self]
  have low := byte_mod 1 (by decide)
  rw [Nat.div_one, Nat.div_one] at low
  rw [nat3, bytes3_eq, BitVec.toNat_ofNat, byte_mod 65536 (by decide), byte_mod 256 (by decide), low]

/-- The value of bit i of a flags byte. -/
def bitValue (i : Nat) (b : Bool) : Nat := if b = true then 2 ^ i else 0

theorem flagBit_zero (b : Bool) : flagBit 0 b = BitVec.ofNat 8 (bitValue 0 b) := by revert b; decide

theorem flags_three (a b c : Bool) : flagBit 0 a ||| flagBit 1 b ||| flagBit 2 c =
    BitVec.ofNat 8 (bitValue 0 a + bitValue 1 b + bitValue 2 c) := by
  revert a b c; decide

theorem flags_five (a b c d e : Bool) : flagBit 0 a ||| flagBit 1 b ||| flagBit 2 c ||| flagBit 3 d ||| flagBit 4 e =
    BitVec.ofNat 8 (bitValue 0 a + bitValue 1 b + bitValue 2 c + bitValue 3 d + bitValue 4 e) := by
  revert a b c d e; decide

theorem flag_eq (b : Bool) : flag b = BitVec.ofNat 8 (bitValue 0 b) := by revert b; decide

/-! ### Records as items -/

theorem StrikerRecord.bytes_eq (r : StrikerRecord) : r.bytes =
    BitVec.ofNat 8 (bitValue 0 r.enabled + bitValue 1 r.sense + bitValue 2 r.adapt) ::
      (nat2 r.fHard ++ nat2 r.fSoft ++ nat2 r.wMin ++ nat2 r.wMax ++ nat2 r.recovery ++ nat2 r.hDerate
        ++ nat2 r.hCut ++ [byteOf r.cooling] ++ nat2 r.impactWindow ++ int2 r.trimSeed) := by
  rw [StrikerRecord.bytes, flags_three]

theorem DamperRecord.bytes_eq (r : DamperRecord) : r.bytes =
    BitVec.ofNat 8 (bitValue 0 r.enabled) :: (nat2 r.releaseTravel ++ nat2 r.engageTravel ++ nat2 r.chokeHold) := by
  rw [DamperRecord.bytes, flagBit_zero]

theorem NodeRecord.bytes_eq (r : NodeRecord) : r.bytes =
    [r.ensemble, r.group1.getD 0xFF, r.group2.getD 0xFF, r.group3.getD 0xFF,
        BitVec.ofNat 8 (bitValue 0 r.compensation + bitValue 1 r.chainEnd + bitValue 2 r.notices
          + bitValue 3 r.rotorEnabled + bitValue 4 r.indexEnabled)]
      ++ nat2 r.markPeriod ++ [BitVec.ofNat 8 (r.holdoverLimit / 65536), BitVec.ofNat 8 (r.holdoverLimit / 256),
          BitVec.ofNat 8 r.holdoverLimit]
      ++ nat2 r.setupMargin ++ nat2 r.lateTolerance
      ++ [byteOf r.lowThreshold, byteOf r.cutThreshold, byteOf r.hysteresis, byteOf r.filterTime]
      ++ nat2 r.stepsPerRev ++ [byteOf r.rampStep] := by
  rw [NodeRecord.bytes, flags_five, nat3_eq]

theorem FaultRecord.bytes_eq (r : FaultRecord) : r.bytes =
    byteOf r.pair.kind.item.val :: r.pair.subject ::
      BitVec.ofNat 8 (bitValue 0 r.active + bitValue 1 r.pair.kind.isCondition + bitValue 2 r.clockNotLocked) ::
        (bytes4 r.firstSeen ++ bytes4 r.lastSeen ++ nat2 r.occurrences) := by
  rw [FaultRecord.bytes, flags_three]

/-! ### Tables as items -/

theorem toList_map_eq_finRange {n : Nat} {α β : Type} (v : Vector α n) (f : α → β) :
    v.toList.map f = (List.finRange n).map fun i => f v[i] := by
  apply List.ext_getElem
  · simp
  · intro i h₁ h₂
    simp

theorem Tbs.items_length (t : Tbs) (b : Bank) (id : TableId) : (t.items b id).length = id.count := by
  cases id <;> simp [Tbs.items, Bank.noteItems, Bank.curveItems, Bank.articulationItems, TableId.count]

theorem readTable_code (t : TableId) : readTable t.code = some t := by cases t <;> rfl

/-! ### The CRC -/

theorem byte_high (b : Byte) : (b.setWidth 16 : Half) <<< (8 : Nat) = BitVec.ofNat 16 (256 * b.toNat) := by
  apply BitVec.eq_of_toNat_eq
  rw [BitVec.toNat_shiftLeft, BitVec.toNat_setWidth, BitVec.toNat_ofNat, Nat.shiftLeft_eq]
  have := b.isLt
  omega

theorem crc16_append (bs : List Byte) (b : Byte) :
    crc16 (bs ++ [b]) = crcShift 8 (crc16 bs ^^^ BitVec.ofNat 16 (256 * b.toNat)) := by
  rw [crc16, List.foldl_append, ← byte_high]
  rfl

/-! ### The contents -/

variable {s : State}

theorem faultsContent_of_first {r : FaultRecord} (h : s.svu.first = some r) : s.faultsContent =
    byteOf s.svu.faults.length :: (s.svu.faults.flatMap FaultRecord.bytes ++ r.bytes ++ [byteOf s.svu.overflow]) := by
  rw [State.faultsContent, h]
  rfl

theorem faultsContent_of_no_first (h : s.svu.first = none) : s.faultsContent =
    byteOf s.svu.faults.length :: (s.svu.faults.flatMap FaultRecord.bytes
      ++ 0xFF :: (List.range 12).map (Config.emptyRecordByte s.localTime) ++ [byteOf s.svu.overflow]) := by
  rw [State.faultsContent, h]
  rfl

theorem strikerContent_of_above {n : Byte} (h : 24 ≤ n.toNat) (s : State) : s.strikerContent n = [n] := by
  have unread : readStriker n = none := dif_neg (Nat.not_lt.2 h)
  rw [State.strikerContent, unread]

theorem strikerContent_byteOf (n : Fin 24) (s : State) : s.strikerContent (byteOf n.val) =
    byteOf n.val :: (s.channelState n).code :: (nat2 (s.channel n).heat ++ int2 (s.channel n).trim
      ++ bytes4 (s.sentBusyUntil n) ++ [byteOf (s.channel n).missRun, byteOf (s.channel n).outlierRun]) := by
  rw [State.strikerContent, readStriker_byteOf]
  rfl

theorem channelState_code (r : StrikerRecord) (c : Channel) : (channelState r c).code =
    if r.enabled = false then 0
    else if c.drive ≠ none then 2
    else if c.marks.noImpact = true ∨ c.marks.offTime = true ∨ c.marks.driverFault = true then 4
    else if c.suspended = true then 5
    else if c.recoveryEnd ≠ none then 3
    else 1 := by
  simp only [channelState, apply_ite ChannelState.code, Bool.not_eq_true', Option.isSome_iff_ne_none, HoldMarks.any,
    Bool.or_eq_true, or_assoc]
  rfl

theorem sentBusyUntil_none {n : Fin 24} (h : (s.channel n).busyUntil = none) : s.sentBusyUntil n = s.now := by
  rw [State.sentBusyUntil, h]
  rfl

theorem sentBusyUntil_some {n : Fin 24} {t : ShowTime} (h : (s.channel n).busyUntil = some t) :
    s.sentBusyUntil n = if 0 < signedDiff t s.now then t else s.now := by
  rw [State.sentBusyUntil, h, lapsing_eq_ite]
  split <;> rfl

theorem dampersContent_eq (s : State) : s.dampersContent = (List.finRange 4).flatMap
    fun d => [(s.damper d).state.code, if (s.damper d).hold = none then 0 else 1] := by
  have held (hold : Option ShowTime) : flag hold.isSome = if hold = none then 0 else 1 := by cases hold <;> rfl
  rw [State.dampersContent, List.flatMap_def, toList_map_eq_finRange, ← List.flatMap_def]
  simp only [held]
  rfl

theorem askedItems_of_some {id : Byte} {t : TableId} (h : readTable id = some t) (bank : Byte) (start : Half)
    (count : Byte) (s : State) : s.askedItems id bank start count =
      ((s.tbs.items (s.tbs.askedBank bank) t).drop start.toNat).take (askedCount t count.toNat) := by
  rw [State.askedItems, h]

theorem tableContent_of_none {id : Byte} (h : readTable id = none) (bank : Byte) (start : Half)
    (count : Byte) (s : State) : s.tableContent id bank start count = id :: bank :: (bytes2 start ++ [0]) := by
  rw [State.tableContent, State.askedItems, h]
  rfl

/-- A margin as it is sent (R178). -/
def sentMargin (m : Option Int) : Counter :=
  match m with
  | none => 0x80000000
  | some x => BitVec.ofInt 32 x

theorem marginBytes_eq (m : Option Int) : marginBytes m = bytes4 (sentMargin m) := by cases m <;> rfl

theorem askedBank_eq (bank : Byte) (t : Tbs) : t.askedBank bank =
    match t.playBank with
    | .a => if bank = 0 then t.bankA else t.bankB
    | .b => if bank = 0 then t.bankB else t.bankA := by
  rw [Tbs.askedBank, Tbs.playTables, Tbs.loadTables]
  cases t.playBank <;> rfl

/-- Settles O10: each content, field by field. -/
theorem answerContentsFollowTheirFormats : Obligations.AnswerContentsFollowTheirFormats := by
  refine ⟨bytes2_eq, bytes4_eq, rfl, rfl, rfl, rfl, rfl, rfl, rfl, rfl, rfl, rfl, readTable_code,
    fun b => readTable_of_above, rfl, StrikerRecord.bytes_eq, DamperRecord.bytes_eq, NodeRecord.bytes_eq,
    ?supervision, ?note, ?articulation, ?fault, ?items, rfl, crc16_append, fun s =>
    ⟨?status, fun r => faultsContent_of_first,
    fun none => ⟨_, rfl, faultsContent_of_no_first none⟩, ?counters,
    fun n above => strikerContent_of_above above s, ?striker, dampersContent_eq s, rfl, ?clock, ?link, rfl, ?table⟩⟩
  case supervision =>
    rintro ⟨reaction, notice⟩
    cases reaction <;> cases notice <;> exact rfl
  case note =>
    rintro ⟨enabled, primary, alternate, curve, offset, choke⟩
    rw [NoteEntry.bytes, flag_eq]
    cases alternate <;> cases choke <;> exact rfl
  case articulation =>
    rintro ⟨curve, offset⟩
    cases curve <;> exact rfl
  case fault =>
    intro r
    rw [FaultRecord.bytes_eq]
    obtain ⟨pair, _⟩ := r
    cases pair with
    | linkErrors port => cases port <;> exact rfl
    | _ => exact rfl
  case items =>
    exact fun t b => ⟨toList_map_eq_finRange _ _, toList_map_eq_finRange _ _, rfl, toList_map_eq_finRange _ _,
      toList_map_eq_finRange _ _, toList_map_eq_finRange _ _, toList_map_eq_finRange _ _, rfl, rfl⟩
  case status =>
    rw [State.statusContent]
    cases s.tbs.pendingSwap <;> cases s.tbs.pointer <;> exact rfl
  case counters =>
    rw [State.countersContent, marginBytes_eq, marginBytes_eq, marginBytes_eq]
    exact rfl
  case striker =>
    intro n
    refine (strikerContent_byteOf n s).trans ?_
    rw [State.channelState, channelState_code]
    cases busy : (s.channel n).busyUntil with
    | none =>
      rw [sentBusyUntil_none busy]
      exact rfl
    | some t =>
      rw [sentBusyUntil_some busy]
      exact rfl
  case clock =>
    rw [State.clockContent, nat3_eq]
    exact rfl
  case link =>
    rw [State.linkContent, nat3_eq]
    exact rfl
  case table =>
    refine fun id bank start count => ⟨fun none => tableContent_of_none none bank start count s, fun t named => ?_⟩
    intro b asked sent
    have same : s.tbs.askedBank bank = b := askedBank_eq bank s.tbs
    have items : s.askedItems id bank start count = sent := by
      rw [askedItems_of_some named, same]
      rfl
    refine ⟨?_, ?_⟩
    · rw [List.length_take, List.length_drop, Tbs.items_length]
    · rw [State.tableContent, items]
      exact rfl

end Sys2Proof.Machine
end
